-- ==== Sys2Proof/Word.lean ====
section
/-! DEFINITION. The block's word types (R6, R80): a byte, a 7-bit bus address, the 32-bit command or window word. -/

namespace Sys2Proof

/-- A byte is 8 bits; every counter, the command byte and both CRC fields have this width (R6). -/
abbrev Byte := BitVec 8

/-- A bus address is 7 bits unsigned (R6): the address itself, without the direction bit (R82). -/
abbrev BusAddr := BitVec 7

/-- The 32-bit word of the command port and of the register window (R63, R80). -/
abbrev Word := BitVec 32

end Sys2Proof
end

