-- ==== Sys2Proof/Config.lean ====
section
/-! DEFINITION. What the spec leaves open: the parameter of the block, the free value of a PEC byte that comes with PEC
off, and the type of the ARP parameters, whose values the state carries. -/

namespace Sys2Proof

/-- `TURNAROUND_SLAVE_STATE` (R8, R222, D22): the 4-bit cursor code the master engine writes into `slave_cursor` at a
bus turn-around. The spec names no value, so this constant has none: a claim holds whatever it is. DESIGN CHOICE
(log entry 4), safe. -/
opaque Config.turnaroundSlaveState : BitVec 4

/-- How SINTP can end a byte that comes in `ReadPEC` while PEC is off. R25 lets no rule read a CRC field then, so R267's
comparison has no stated outcome; R131 has the byte dropped. -/
inductive PecOffEnd where
  /-- R267's end on equality: `ReadDone`, `Ok`. -/
  | agrees
  /-- R267's end on inequality: the cursor stays, `PecError`. -/
  | differs
  /-- R268's end of an unexpected byte: the cursor stays, `SlaveError`. -/
  | unexpected
  deriving DecidableEq, Repr, Inhabited

/-- The free value of that end, a new one for each byte: the argument counts the free values taken so far. DESIGN CHOICE
(log entry 21), safe: a claim holds whatever it is. -/
opaque Config.pecOffEnd : Nat → PecOffEnd

/-- The seven parameters of the ARP helpers (R312, U23). Their defaults are `Machine.arpDefaults`, and the state carries
the values a run uses, so that a claim about a helper holds for every value. -/
structure ArpParams where
  /-- `ARP_DEFAULT_ADDR`. -/
  defaultAddr : BusAddr
  /-- `ARP_CMD_PREPARE`. -/
  prepare : Byte
  /-- `ARP_CMD_RESET_DEVICE`. -/
  resetDevice : Byte
  /-- `ARP_CMD_GET_UDID`. -/
  getUdid : Byte
  /-- `ARP_CMD_ASSIGN_ADDR`. -/
  assignAddr : Byte
  /-- What the directed Get UDID command has beside the shifted device address: the `1` of `(address << 1) | 1`. -/
  directedGetUdid : Byte
  /-- What the directed Reset Device command has beside the shifted device address: the `0` of `(address << 1) | 0`. -/
  directedReset : Byte
  deriving DecidableEq, Repr

end Sys2Proof
end

