-- ==== Sys2Proof/Machine/Operands.lean ====
section
/-! DEFINITION. What the commands make of their operands: the fixed constants (R7, R312), the wire byte of an address
(R11, R66) and the accepted sizes (R172). -/

namespace Sys2Proof.Machine

/-- `WORD_MAX` (R7). -/
def wordMax : Nat := 2
/-- `BLOCK_MAX` (R7). -/
def blockMax : Nat := 32
/-- `HOST_ADDR` (R7, R189). -/
def hostAddr : BusAddr := 0x08#7
/-- `BLOCK_RX_PLACEHOLDER` (R7, R186; log entry 14). -/
def blockRxPlaceholder : Byte := 3#8
/-- `FILLER` (R7, R272). -/
def filler : Byte := 0xFF#8
/-- `UDID_WIRE_LEN` (R7, R300). -/
def udidWireLen : Nat := 17
/-- `BUF_LEN` (R7, R60). -/
def bufLen : Nat := 256
/-- `ARP_DEFAULT_ADDR` (R312). PRESUMED by the spec, GK2 (log entry 16). -/
def arpDefaultAddr : BusAddr := 0x61#7
/-- `ARP_CMD_PREPARE` (R312). PRESUMED by the spec, GK3 (log entry 16). -/
def arpCmdPrepare : Byte := 0x01#8
/-- `ARP_CMD_RESET_DEVICE` (R312). PRESUMED by the spec, GK3 (log entry 16). -/
def arpCmdResetDevice : Byte := 0x02#8
/-- `ARP_CMD_GET_UDID` (R312). PRESUMED by the spec, GK3 (log entry 16). -/
def arpCmdGetUdid : Byte := 0x03#8
/-- `ARP_CMD_ASSIGN_ADDR` (R312). PRESUMED by the spec, GK3 (log entry 16). -/
def arpCmdAssignAddr : Byte := 0x04#8

/-- A direction bit as a byte: write is 0, read is 1 (R16). -/
def dirBit (d : Bool) : Byte := if d then 1#8 else 0#8

/-- The address-plus-direction byte `(a << 1) | d` (R11, R66). -/
def addrByte (a : BusAddr) (d : Bool) : Byte := a.setWidth 8 <<< 1 ||| dirBit d

/-- The ARP parameters at the values R312 gives as defaults. PRESUMED by the spec, GK2 and GK3 (log entry 16). -/
def arpDefaults : ArpParams :=
  { defaultAddr := arpDefaultAddr, prepare := arpCmdPrepare, resetDevice := arpCmdResetDevice,
    getUdid := arpCmdGetUdid, assignAddr := arpCmdAssignAddr, directedGetUdid := 0x01#8, directedReset := 0x00#8 }

/-- The command byte of a directed ARP command (R306, R308, R312): the device address shifted left by one, and the bits
its parameter adds. -/
def arpDirected (device : BusAddr) (bits : Byte) : Byte := addrByte device false ||| bits

/-- Sizes a word protocol accepts (R172). -/
def wordSizeOk (n : Byte) : Bool := decide (1 ≤ n.toNat) && decide (n.toNat ≤ wordMax)

/-- Sizes a block protocol accepts (R172). -/
def blockSizeOk (n : Byte) : Bool := decide (1 ≤ n.toNat) && decide (n.toNat ≤ blockMax)

/-- Sizes a raw I2C command accepts (R172): 1 to 255. -/
def rawSizeOk (n : Byte) : Bool := decide (1 ≤ n.toNat)

end Sys2Proof.Machine
end

