-- ==== Sys2Proof/Machine/State.lean ====
section
/-! DEFINITION. The architectural state of one controller (R20), the types of its fields, the reasons a step can stop
and the state after hardware reset (R40). -/

namespace Sys2Proof.Machine

/-- The position of a state machine (R27): the fifteen named states of the shared code space, in the order of their
codes 0 to 14, and `unused`, the code 15 that no rule writes but that `TURNAROUND_SLAVE_STATE` may be (R8, R37). -/
inductive Cursor where
  | idle | slavePostCommand | writeBlockSize | writeNext | writeFinal | writeDone | readOne | readFirst
  | readBlockSize | readNext | readFinal | readWait | readPec | readDone | readErrorStop | unused
  deriving DecidableEq, Repr

/-- The status codes 0 to 18 in order (R94); the codes 19 to 31 are never produced and have no value here. -/
inductive Status where
  | ok | timeout | peripheralBusy | busBusy | arbitrationLost | addressAckError | dataAckError | pecError
  | dataSizeError | masterError | slaveError | quickCommandZero | quickCommandOne | firstByte
  | primaryAddressMatched | secondaryAddressMatched | transferInProgress | transferComplete | slaveNotReady
  deriving DecidableEq, Repr

/-- The ten transport control commands, in the order of their codes (R96). -/
inductive Ctl where
  | singleSend | singleReceive | sendStart | sendCont | sendFinish | recvStart | recvCont | recvFinish
  | quickCommand | errorStop
  deriving DecidableEq, Repr

/-- A transport action, the controller's output (R98). A direction bit, a slot or an acknowledge bit is a Bool, true
for 1. -/
inductive Action where
  | mAddr (address : BusAddr) (dir : Bool)
  | mPut (b : Byte)
  | mGet
  | mCtl (c : Ctl)
  | mIclrTimeout
  | mIclrData
  | mIen
  | sEnable
  | sAddr (slot : Bool) (address : BusAddr)
  | sPut (b : Byte)
  | sGet
  | sAckOvr (enable : Bool)
  | sAckVal (ack : Bool)
  | sIclrStart
  | sIclrStop
  | sIclrData
  | sIen
  deriving DecidableEq, Repr

/-- What the transport shows a command (R100): the spec's `in.*`, true for 1. -/
structure Inputs where
  periphBusy : Bool
  busBusy : Bool
  intTimeout : Bool
  errArb : Bool
  errAddrNack : Bool
  errDataNack : Bool
  data : Byte
  intStart : Bool
  intStop : Bool
  intData : Bool
  stFbr : Bool
  stRreq : Bool
  stTreq : Bool
  stOwn2 : Bool
  stQcmd : Bool
  stQcmdRw : Bool
  ackOverride : Bool
  deriving DecidableEq, Repr

/-- Every input 0, the value R104 gives an input that a line does not write. -/
def Inputs.quiet : Inputs :=
  { periphBusy := false, busBusy := false, intTimeout := false, errArb := false, errAddrNack := false,
    errDataNack := false, data := 0#8, intStart := false, intStop := false, intData := false, stFbr := false,
    stRreq := false, stTreq := false, stOwn2 := false, stQcmd := false, stQcmdRw := false, ackOverride := false }

/-- The eight flags of R31; the word with their bit positions is `Flags.word`, bits 15:8 of which are 0. -/
structure Flags where
  pec : Bool
  pc : Bool
  blk : Bool
  tip : Bool
  raw : Bool
  ar : Bool
  av : Bool
  arp : Bool
  deriving DecidableEq, Repr

/-- The UDID bank (R33): eight registers, each holding a number. -/
structure Udid where
  cap : BitVec 8
  ver : BitVec 8
  vendor : BitVec 16
  device : BitVec 16
  iface : BitVec 16
  subvendor : BitVec 16
  subdevice : BitVec 16
  vspec : BitVec 32
  deriving DecidableEq, Repr

/-- Which UDID registers something has written since hardware reset: the model's own field, needed by R69 (log
entry 3). -/
structure UdidWritten where
  cap : Bool
  ver : Bool
  vendor : Bool
  device : Bool
  iface : Bool
  subvendor : Bool
  subdevice : Bool
  vspec : Bool
  deriving DecidableEq, Repr

/-- `result` (R36): the outcome of the last command. -/
structure Result where
  err : Bool
  status : Status
  data : Byte
  deriving DecidableEq, Repr

/-- A buffer space (R60): the bytes something has written, as (index, byte) pairs. An index that is not listed has no
value (R69). Its canonical form is `Memory.wf`. -/
abbrev Memory := List Host.Cell

/-- The width of a bus access: the two R67 allows somewhere (`byte`, `word`), and for its "any other width" the 16-bit
`half` and `wide`, any width above 32 bits. How wide the host's bus is the spec leaves open: DESIGN CHOICE (log entry 23). -/
inductive Width where
  | byte | half | word | wide
  deriving DecidableEq, Repr

/-- A bus access reads, or writes a value. An access wider than 32 bits is refused whatever it carries, so the value holds
the low 32 data lines (log entry 23). -/
inductive BusOp where
  | read
  | write (value : Word)
  deriving DecidableEq, Repr

/-- What the last bus access answered the host: nothing to return, the word read, or the access refused (R67). The
model's own (log entry 9). -/
inductive BusReply where
  | none
  | data (value : Word)
  | refused
  deriving DecidableEq, Repr

/-- One step of the world outside the block: a bus access at an offset of the window, with what the transport shows a
command in that step (R63, R100), or a hardware reset (R350a). -/
inductive HostStep where
  | access (width : Width) (offset : Nat) (op : BusOp) (inputs : Inputs)
  | hardwareReset
  deriving DecidableEq, Repr

/-- The architectural state (R20), then the model's own fields. -/
structure State where
  /-- `tx_size` (R21). -/
  txSize : Byte
  /-- `tx_index` (R21). -/
  txIndex : Byte
  /-- `rx_size` (R22). -/
  rxSize : Byte
  /-- `rx_index` (R22). -/
  rxIndex : Byte
  /-- `own_address` (R23). -/
  ownAddress : BusAddr
  /-- `target_address` (R23). -/
  targetAddress : BusAddr
  /-- `current_command` (R24). -/
  currentCommand : Byte
  /-- `computed_crc` (R25). -/
  computedCrc : Byte
  /-- `received_crc` (R25). -/
  receivedCrc : Byte
  /-- `master_cursor` (R27, R28). -/
  masterCursor : Cursor
  /-- `slave_cursor` (R27, R28). -/
  slaveCursor : Cursor
  /-- `flags` (R30, R31). -/
  flags : Flags
  /-- `udid` (R33). -/
  udid : Udid
  /-- `udid_bound` (R33). -/
  udidBound : Bool
  /-- `saddr0` (R26). -/
  saddr0 : BusAddr
  /-- `saddr1` (R26). -/
  saddr1 : BusAddr
  /-- `inited` (R34). -/
  inited : Bool
  /-- `result` (R36). -/
  result : Result
  /-- `TXBUF` (R60, R61). -/
  txbuf : Memory
  /-- `RXBUF` (R60, R62). -/
  rxbuf : Memory
  /-- The model's own: which UDID registers have been written (log entry 3). -/
  udidWritten : UdidWritten
  /-- The model's own: the output trace, every emitted action, oldest first (R12, R98). -/
  trace : List Action
  /-- The model's own: the transport inputs the current command samples (R100; log entry 5). -/
  inputs : Inputs
  /-- The model's own: what the host does next, oldest first (log entry 6). -/
  schedule : List HostStep
  /-- The model's own: the answer to the last bus access (log entry 9). -/
  reply : BusReply
  /-- The model's own: the parameters of the ARP helpers (R312, U23), fixed for a run (log entry 16). -/
  arpParams : ArpParams
  /-- The model's own: how many values of `Config.pecOffEnd` have been taken (log entry 21). -/
  freeDraws : Nat
  deriving DecidableEq, Repr

/-- Why a run is invalid. Every constructor but the last is a behaviour that 93_implementation_defined.md treats as
`fault`. -/
inductive Fault where
  /-- A command (or a window read) needs `TXBUF[index]`, which nothing has written (U3, R69). Raised by `withTxByte` and by
  the window. Safe: hardware would go on with some byte. -/
  | unwrittenTxByte (index : Nat)
  /-- UDIDDEC (or a window read) needs `RXBUF[index]`, which nothing has written (U4, R69). Raised by UDIDDEC and by the
  window. Safe. -/
  | unwrittenRxByte (index : Nat)
  /-- UDIDENC or ARPASSIGN encodes a UDID register that nothing has written: "a fault of the run" (D5, R69; U3, treatment
  `fault`). The register holds its reset value (log entry 1); it is the written mark that R69 asks for. Safe. -/
  | unwrittenUdid
  /-- SINTP would store the raw-mode first byte at or beyond `rx_size` (U2, R262). Safe. -/
  | rawStoreBeyondCapacity (index : Nat)
  /-- A bus access beyond the last offset of the window, where the block has no address (R60, R63). Raised by the
  window. Safe. -/
  | outsideWindow (offset : Nat)
  deriving DecidableEq, Repr

/-- Why a step is refused. No meaning refuses: an illegal command word is a next state with CmdErr (R322). -/
inductive Refusal where
  /-- Raised by an arm of `exec` whose instruction has no meaning yet; no arm does. Safe. -/
  | notModelled (mnemonic : String)
  deriving DecidableEq, Repr

/-- The machine after hardware reset (R40, R350): `inited` 0 and `result` Ok with data 0 are the spec's; every other
register is unspecified there and 0 here (DESIGN CHOICE, log entry 1, unsafe); no buffer byte has a value; the ARP parameters
are at the defaults of R312. -/
def State.reset : State :=
  { txSize := 0#8, txIndex := 0#8, rxSize := 0#8, rxIndex := 0#8, ownAddress := 0#7, targetAddress := 0#7,
    currentCommand := 0#8, computedCrc := 0#8, receivedCrc := 0#8, masterCursor := .idle, slaveCursor := .idle,
    flags := { pec := false, pc := false, blk := false, tip := false, raw := false, ar := false, av := false,
               arp := false },
    udid := { cap := 0#8, ver := 0#8, vendor := 0#16, device := 0#16, iface := 0#16, subvendor := 0#16,
              subdevice := 0#16, vspec := 0#32 },
    udidBound := false, saddr0 := 0#7, saddr1 := 0#7, inited := false,
    result := { err := false, status := .ok, data := 0#8 }, txbuf := [], rxbuf := [],
    udidWritten := { cap := false, ver := false, vendor := false, device := false, iface := false,
                     subvendor := false, subdevice := false, vspec := false },
    trace := [], inputs := .quiet, schedule := [], reply := .none, arpParams := arpDefaults,
    freeDraws := 0 }

end Sys2Proof.Machine
end

