-- ==== Sys2Proof/Machine/Codes.lean ====
section
/-! DEFINITION. The numeric codes of cursors (R27, D6), statuses (R94, D7) and transport control commands (R96, D9). -/

namespace Sys2Proof.Machine

/-- The 4-bit code of a cursor (R27). -/
def Cursor.code : Cursor → BitVec 4
  | .idle => 0#4
  | .slavePostCommand => 1#4
  | .writeBlockSize => 2#4
  | .writeNext => 3#4
  | .writeFinal => 4#4
  | .writeDone => 5#4
  | .readOne => 6#4
  | .readFirst => 7#4
  | .readBlockSize => 8#4
  | .readNext => 9#4
  | .readFinal => 10#4
  | .readWait => 11#4
  | .readPec => 12#4
  | .readDone => 13#4
  | .readErrorStop => 14#4
  | .unused => 15#4

/-- The cursor of a 4-bit code (R27): the inverse of `Cursor.code`. -/
def Cursor.ofCode (c : BitVec 4) : Cursor :=
  match c.toNat with
  | 0 => .idle
  | 1 => .slavePostCommand
  | 2 => .writeBlockSize
  | 3 => .writeNext
  | 4 => .writeFinal
  | 5 => .writeDone
  | 6 => .readOne
  | 7 => .readFirst
  | 8 => .readBlockSize
  | 9 => .readNext
  | 10 => .readFinal
  | 11 => .readWait
  | 12 => .readPec
  | 13 => .readDone
  | 14 => .readErrorStop
  | _ => .unused

/-- The cursor that `TURNAROUND_SLAVE_STATE` stands for (R8, R222). -/
def turnaroundCursor : Cursor := Cursor.ofCode Config.turnaroundSlaveState

/-- The 5-bit code of a status (R94). -/
def Status.code : Status → BitVec 5
  | .ok => 0#5
  | .timeout => 1#5
  | .peripheralBusy => 2#5
  | .busBusy => 3#5
  | .arbitrationLost => 4#5
  | .addressAckError => 5#5
  | .dataAckError => 6#5
  | .pecError => 7#5
  | .dataSizeError => 8#5
  | .masterError => 9#5
  | .slaveError => 10#5
  | .quickCommandZero => 11#5
  | .quickCommandOne => 12#5
  | .firstByte => 13#5
  | .primaryAddressMatched => 14#5
  | .secondaryAddressMatched => 15#5
  | .transferInProgress => 16#5
  | .transferComplete => 17#5
  | .slaveNotReady => 18#5

/-- The 4-bit code of a transport control command (R96). -/
def Ctl.code : Ctl → BitVec 4
  | .singleSend => 0#4
  | .singleReceive => 1#4
  | .sendStart => 2#4
  | .sendCont => 3#4
  | .sendFinish => 4#4
  | .recvStart => 5#4
  | .recvCont => 6#4
  | .recvFinish => 7#4
  | .quickCommand => 8#4
  | .errorStop => 9#4

end Sys2Proof.Machine
end

