-- ==== Sys2Proof/Machine/Crc8.lean ====
section
/-! DEFINITION. The CRC-8 function of 40_crc8.md. Its bit-level parameters are the spec's from general knowledge
(GK1, log entry 15). -/

namespace Sys2Proof.Machine

/-- `CRC_POLY` (R7, R110). -/
def crcPoly : Byte := 0x07#8

/-- One bit of the CRC, most significant first (R110). -/
def crcStep1 (c : Byte) : Byte := if c.msb then c <<< 1 ^^^ crcPoly else c <<< 1

/-- `step1` eight times (R110). -/
def crcStep8 (c : Byte) : Byte :=
  crcStep1 (crcStep1 (crcStep1 (crcStep1 (crcStep1 (crcStep1 (crcStep1 (crcStep1 c)))))))

/-- `crc8(seed, bytes)` (R110). -/
def crc8 (seed : Byte) : List Byte → Byte
  | [] => seed
  | b :: rest => crc8 (crcStep8 (seed ^^^ b)) rest

end Sys2Proof.Machine
end

