-- ==== Sys2Proof/Machine/Flags.lean ====
section
/-! DEFINITION. The flags word (R30, R31) and the writes of its flags. The block has no condition codes (R32): no command sets a flag
from an arithmetic result. -/

namespace Sys2Proof.Machine

/-- One bit of a word. -/
def flagBit (b : Bool) (pos : Nat) : BitVec 16 := if b then 1#16 <<< pos else 0#16

/-- The flags word with the bit positions of R31: PEC 0, PC 1, BLK 2, TIP 3, RAW 4, AR 5, AV 6, ARP 7; bits 15:8 read 0. -/
def Flags.word (f : Flags) : BitVec 16 :=
  flagBit f.pec 0 ||| flagBit f.pc 1 ||| flagBit f.blk 2 ||| flagBit f.tip 3 ||| flagBit f.raw 4 |||
    flagBit f.ar 5 ||| flagBit f.av 6 ||| flagBit f.arp 7

/-- All eight flags 0, as the inits leave them (R40, R121). -/
def Flags.clear : Flags :=
  { pec := false, pc := false, blk := false, tip := false, raw := false, ar := false, av := false, arp := false }

/-- The write of `flags.TIP` (R31). -/
def State.setTip (s : State) (v : Bool) : State := { s with flags := { s.flags with tip := v } }

/-- `pec1` of R216: 1 when `flags.PEC` is 1. -/
def pec1 (s : State) : Nat := if s.flags.pec then 1 else 0

/-- `txpec1` of R216: a PEC byte follows the transmitted payload when PEC is on and this is no process call. -/
def txpec1 (s : State) : Nat := if s.flags.pec && !s.flags.pc then 1 else 0

end Sys2Proof.Machine
end

