-- ==== Sys2Proof/Machine/Ops.lean ====
section
/-! DEFINITION. The named operations every meaning is built from: the buffer spaces (R60 to R62, R69), the pseudocode
primitives of R12, and the ways a command ends (R36, R320, R322). The block has no exceptions: ending with a status is
what a processor's exception entry would be, and there is no return from it (R320, R325). -/

namespace Sys2Proof.Machine

/-- The outcome of a command. -/
abbrev Out := Host.Outcome State Fault Refusal

/-- A byte of a buffer space, none where nothing has written it (R69). -/
def Memory.read (m : Memory) (i : Nat) : Option Byte :=
  match m with
  | [] => none
  | c :: rest => if i = c.1 then some c.2 else Memory.read rest i

/-- The write of one byte of a buffer space, keeping the canonical form. -/
def Memory.write (m : Memory) (i : Nat) (v : Byte) : Memory :=
  match m with
  | [] => [(i, v)]
  | c :: rest =>
    if i < c.1 then (i, v) :: c :: rest
    else if i = c.1 then (i, v) :: rest
    else c :: Memory.write rest i v

/-- The write of consecutive bytes from index `i`. -/
def Memory.writeBytes (m : Memory) (i : Nat) : List Byte → Memory
  | [] => m
  | v :: vs => Memory.writeBytes (m.write i v) (i + 1) vs

/-- The read of `n` consecutive bytes from index `i`: the bytes, or the first index nothing has written. -/
def Memory.readBytes (m : Memory) (i : Nat) : Nat → Except Nat (List Byte)
  | 0 => .ok []
  | n + 1 =>
    match m.read i with
    | none => .error i
    | some v =>
      match Memory.readBytes m (i + 1) n with
      | .ok vs => .ok (v :: vs)
      | .error j => .error j

/-- The canonical form: indices strictly rising and inside the space (R60). An unlisted index reads as no value, so no
listed byte equals it. -/
abbrev Memory.wf (m : Memory) : Prop :=
  m.Pairwise (fun x y => x.1 < y.1) ∧ ∀ c ∈ m, c.1 < bufLen

/-- `emit A` (R12): the action is appended to the output trace. -/
def State.emit (s : State) (a : Action) : State := { s with trace := s.trace ++ [a] }

/-- `fold(b)` (R112). -/
def State.fold (s : State) (b : Byte) : State :=
  { s with computedCrc := if s.flags.pec then crc8 s.computedCrc [b] else s.computedCrc }

/-- `master_cursor <- c` (R12). -/
def State.setMaster (s : State) (c : Cursor) : State := { s with masterCursor := c }

/-- `slave_cursor <- c` (R12). -/
def State.setSlave (s : State) (c : Cursor) : State := { s with slaveCursor := c }

/-- `RXBUF[rx_index] <- b; rx_index <- rx_index + 1` (R12, R62). -/
def State.storeRx (s : State) (b : Byte) : State :=
  { s with rxbuf := s.rxbuf.write s.rxIndex.toNat b, rxIndex := s.rxIndex + 1#8 }

/-- `return S, d` (R12, R102): the status and the data byte are latched into `result`. -/
def State.setResult (s : State) (r : Result) : State := { s with result := r }

/-- `return S, d` as the end of a command (R12, R102, R320). -/
def finish (s : State) (status : Status) (data : Byte) : Out :=
  .next (s.setResult { err := false, status := status, data := data })

/-- `raise CmdErr` (R12, R322): nothing changes but `result`. -/
def raiseCmdErr (s : State) : Out := .next (s.setResult { err := true, status := .ok, data := 0#8 })

/-- Every command but the inits is rejected with CmdErr while `inited = 0` (R34, R84). -/
def whenInited (s : State) (o : Out) : Out := if s.inited then o else raiseCmdErr s

/-- `TXBUF[i]` (R12), given to the rest of the command; a byte nothing has written makes the run invalid (R69, U3). -/
def withTxByte (s : State) (i : Nat) (k : Byte → Out) : Out :=
  match s.txbuf.read i with
  | some b => k b
  | none => .fault (.unwrittenTxByte i)

/-- The TXBUF byte at `tx_index` is handed out and the index moves on (R21): `b <- TXBUF[tx_index]; tx_index <- tx_index + 1`. -/
def withNextTx (s : State) (k : Byte → State → Out) : Out :=
  withTxByte s s.txIndex.toNat fun b => k b { s with txIndex := s.txIndex + 1#8 }

/-- Payload bytes not yet handed to the transport, `tx_size ∸ tx_index` (R11). -/
def txLeft (s : State) : Nat := s.txSize.toNat - s.txIndex.toNat

/-- Payload bytes not yet received, `rx_size ∸ rx_index` (R11). -/
def rxLeft (s : State) : Nat := s.rxSize.toNat - s.rxIndex.toNat

end Sys2Proof.Machine
end

