-- ==== Sys2Proof/Machine/MasterStart.lean ====
section
/-! DEFINITION. The thirteen master transaction-start commands of 42_master_start.md: the common procedure (R179) and one
row of R178 for each. -/

namespace Sys2Proof.Machine

/-- A row of R178 with the operands filled in. `entry` and `ctl` are functions of `flags.PEC` as R174 leaves it; `turn`
says that the turn-around write of R196 is due. -/
structure StartRow where
  target : BusAddr
  dir : Bool
  cmd : Option Byte
  first : Option Byte
  txSize : Byte
  txIndex : Byte
  rxSize : Byte
  blk : Bool
  pc : Bool
  raw : Bool
  pecOff : Bool
  entry : Bool → Cursor
  ctl : Bool → Ctl
  turn : Bool

/-- The two checks that precede every write (R171, R172), in their order. -/
def startChecked (s : State) (sizeOk : Bool) (o : Out) : Out :=
  if s.inputs.periphBusy then finish s .peripheralBusy 0#8
  else if sizeOk then o
  else finish s .dataSizeError 0#8

/-- Recording and flags (R173, R174). -/
def State.recordStart (s : State) (r : StartRow) : State :=
  { s with targetAddress := r.target, currentCommand := r.cmd.getD s.currentCommand, txSize := r.txSize,
           rxSize := r.rxSize, txIndex := r.txIndex, rxIndex := 0#8, computedCrc := 0#8, receivedCrc := 0#8,
           flags := { s.flags with blk := r.blk, pc := r.pc, raw := r.raw, pec := s.flags.pec && !r.pecOff } }

/-- The first wire byte after the address, if the protocol has one (R175). -/
def State.armFirst (s : State) (first : Option Byte) : State :=
  match first with
  | none => s
  | some b => (s.fold b).emit (.mPut b)

/-- Cursor and TIP (R176), and the turn-around write of R196. -/
def State.enterStart (s : State) (r : StartRow) : State :=
  { s with masterCursor := r.entry s.flags.pec,
           slaveCursor := if r.turn then turnaroundCursor else s.slaveCursor,
           flags := { s.flags with tip := true } }

/-- Everything a start command writes and emits once both checks have passed (R173 to R176). -/
def State.started (s : State) (r : StartRow) : State :=
  let armed := (((s.recordStart r).emit (.mAddr r.target r.dir)).fold (addrByte r.target r.dir)).armFirst r.first
  (armed.enterStart r).emit (.mCtl (r.ctl armed.flags.pec))

/-- The common procedure after the checks (R173 to R177): all writes, then the bus-busy check. -/
def arm (s : State) (r : StartRow) : Out :=
  finish (s.started r) (if s.inputs.busBusy then .busBusy else .ok) 0#8

/-- The row of MQUICK (R178, R180). -/
def rowQuick (target : BusAddr) (bit : Bool) : StartRow :=
  { target := target, dir := bit, cmd := none, first := none, txSize := 0#8, txIndex := 0#8, rxSize := 0#8,
    blk := false, pc := false, raw := false, pecOff := true, entry := fun _ => .idle,
    ctl := fun _ => .quickCommand, turn := false }

/-- MQUICK (R180). -/
def execMquick (target : BusAddr) (bit : Bool) (s : State) : Out :=
  whenInited s (startChecked s true (arm s (rowQuick target bit)))

/-- The row of MSENDB (R178, R181). -/
def rowSendByte (target : BusAddr) (data : Byte) : StartRow :=
  { target := target, dir := false, cmd := some data, first := some data, txSize := 0#8, txIndex := 0#8,
    rxSize := 0#8, blk := false, pc := false, raw := false, pecOff := false,
    entry := fun p => if p then .writeFinal else .idle,
    ctl := fun p => if p then .sendStart else .singleSend, turn := false }

/-- The start MSENDB performs; the Reset Device and Prepare helpers perform it too (R181, R307, R308, R311). -/
def startSendByte (target : BusAddr) (data : Byte) (s : State) : Out :=
  startChecked s true (arm s (rowSendByte target data))

/-- MSENDB (R181). -/
def execMsendb (target : BusAddr) (data : Byte) (s : State) : Out := whenInited s (startSendByte target data s)

/-- The row of MRECVB (R178, R182). -/
def rowReceiveByte (target : BusAddr) : StartRow :=
  { target := target, dir := true, cmd := none, first := none, txSize := 0#8, txIndex := 0#8, rxSize := 1#8,
    blk := false, pc := false, raw := false, pecOff := false,
    entry := fun p => if p then .readFinal else .readWait,
    ctl := fun p => if p then .recvStart else .singleReceive, turn := false }

/-- MRECVB (R182). -/
def execMrecvb (target : BusAddr) (s : State) : Out :=
  whenInited s (startChecked s true (arm s (rowReceiveByte target)))

/-- A row that begins with a command byte and `SendStart`, PEC kept: the shape MWRITE to MNOTIFY share (R178). -/
def rowCommand (target : BusAddr) (command txs rxs : Byte) (blk pc : Bool) (entry : Bool → Cursor) : StartRow :=
  { target := target, dir := false, cmd := some command, first := some command, txSize := txs, txIndex := 0#8,
    rxSize := rxs, blk := blk, pc := pc, raw := false, pecOff := false, entry := entry,
    ctl := fun _ => .sendStart, turn := false }

/-- MWRITE (R183): the entry is `WriteFinal` exactly when one wire byte remains after the command byte. -/
def execMwrite (target : BusAddr) (command size : Byte) (s : State) : Out :=
  whenInited s (startChecked s (wordSizeOk size) (arm s
    (rowCommand target command size 0#8 false false fun p =>
      if size = 1#8 ∧ p = false then .writeFinal else .writeNext)))

/-- MREAD (R184). -/
def execMread (target : BusAddr) (command size : Byte) (s : State) : Out :=
  whenInited s (startChecked s (wordSizeOk size) (arm s
    (rowCommand target command 0#8 size false false fun _ => .readFirst)))

/-- The start MBLKWR performs; ARPASSIGN performs it too (R185, R309). -/
def startBlockWrite (target : BusAddr) (command size : Byte) (s : State) : Out :=
  startChecked s (blockSizeOk size) (arm s
    (rowCommand target command size 0#8 true false fun _ => .writeBlockSize))

/-- MBLKWR (R185). -/
def execMblkwr (target : BusAddr) (command size : Byte) (s : State) : Out :=
  whenInited s (startBlockWrite target command size s)

/-- The start MBLKRD performs; the Get UDID helpers perform it too (R186, R305, R306). -/
def startBlockRead (target : BusAddr) (command : Byte) (s : State) : Out :=
  startChecked s true (arm s
    (rowCommand target command 0#8 blockRxPlaceholder true false fun _ => .readFirst))

/-- MBLKRD (R186). -/
def execMblkrd (target : BusAddr) (command : Byte) (s : State) : Out :=
  whenInited s (startBlockRead target command s)

/-- MPCALL (R187). -/
def execMpcall (target : BusAddr) (command : Byte) (s : State) : Out :=
  whenInited s (startChecked s true (arm s
    (rowCommand target command 2#8 2#8 false true fun _ => .writeNext)))

/-- MBPCALL (R188). -/
def execMbpcall (target : BusAddr) (command size : Byte) (s : State) : Out :=
  whenInited s (startChecked s (blockSizeOk size) (arm s
    (rowCommand target command size blockRxPlaceholder true true fun _ => .writeBlockSize)))

/-- The start MNOTIFY performs; ARPNOTIFY performs it too (R189, R310). -/
def startNotify (command : Byte) (s : State) : Out :=
  startChecked s true (arm s
    (rowCommand hostAddr command 2#8 0#8 false false fun _ => .writeNext))

/-- MNOTIFY (R189). -/
def execMnotify (command : Byte) (s : State) : Out := whenInited s (startNotify command s)

/-- A raw I2C row: no command byte, RAW set, PEC forced off (R178, R192). -/
def rowRaw (target : BusAddr) (dir : Bool) (first : Option Byte) (txs txi rxs : Byte) (pc : Bool)
    (entry : Cursor) (ctl : Ctl) (turn : Bool) : StartRow :=
  { target := target, dir := dir, cmd := none, first := first, txSize := txs, txIndex := txi, rxSize := rxs,
    blk := false, pc := pc, raw := true, pecOff := true, entry := fun _ => entry, ctl := fun _ => ctl, turn := turn }

/-- MI2CWR (R194); `TXBUF[0]` is read only after both checks passed. -/
def execMi2cwr (target : BusAddr) (size : Byte) (s : State) : Out :=
  whenInited s (startChecked s (rawSizeOk size) (withTxByte s 0 fun b => arm s
    (rowRaw target false (some b) size 1#8 0#8 false
      (if size = 1#8 then .idle else if size = 2#8 then .writeFinal else .writeNext)
      (if size = 1#8 then .singleSend else .sendStart) false)))

/-- MI2CRD (R195). -/
def execMi2crd (target : BusAddr) (size : Byte) (s : State) : Out :=
  whenInited s (startChecked s (rawSizeOk size) (arm s
    (rowRaw target true none 0#8 0#8 size false
      (if size = 1#8 then .readWait else if size = 2#8 then .readFinal else .readNext)
      (if size = 1#8 then .singleReceive else .recvStart) false)))

/-- MI2CWRRD (R196); with a one-byte write part the turn-around coupling is done here. -/
def execMi2cwrrd (target : BusAddr) (txSize rxSize : Byte) (s : State) : Out :=
  whenInited s (startChecked s (rawSizeOk txSize && rawSizeOk rxSize) (withTxByte s 0 fun b => arm s
    (rowRaw target false (some b) txSize 1#8 rxSize true
      (if txSize = 1#8 then .readFirst else if txSize = 2#8 then .writeFinal else .writeNext)
      .sendStart (decide (txSize = 1#8)))))

end Sys2Proof.Machine
end

