-- ==== Sys2Proof/Machine/Arp.lean ====
section
/-! DEFINITION. The UDID wire codec and the ARP helpers of 45_arp.md, at the parameters the state carries (R312). -/

namespace Sys2Proof.Machine

/-- Byte `k` of a value, byte 0 the least significant. -/
def byteOf (w k : Nat) (v : BitVec w) : Byte := v.extractLsb' (8 * k) 8

/-- `encode(udid, a)` (R300, R301): 17 bytes, each field most significant byte first, the address byte last and verbatim. -/
def udidEncode (u : Udid) (a : Byte) : List Byte :=
  [u.cap, u.ver, byteOf 16 1 u.vendor, byteOf 16 0 u.vendor, byteOf 16 1 u.device, byteOf 16 0 u.device,
   byteOf 16 1 u.iface, byteOf 16 0 u.iface, byteOf 16 1 u.subvendor, byteOf 16 0 u.subvendor,
   byteOf 16 1 u.subdevice, byteOf 16 0 u.subdevice, byteOf 32 3 u.vspec, byteOf 32 2 u.vspec,
   byteOf 32 1 u.vspec, byteOf 32 0 u.vspec, a]

/-- `decode(bytes)` (R302), for the 17 bytes of a packet: the eight fields and the address byte. -/
def udidDecode (bytes : List Byte) : Udid × Byte :=
  let byteAt := fun k => bytes.getD k 0#8
  ({ cap := byteAt 0, ver := byteAt 1, vendor := byteAt 2 ++ byteAt 3, device := byteAt 4 ++ byteAt 5, iface := byteAt 6 ++ byteAt 7,
     subvendor := byteAt 8 ++ byteAt 9, subdevice := byteAt 10 ++ byteAt 11, vspec := byteAt 12 ++ byteAt 13 ++ byteAt 14 ++ byteAt 15 },
   byteAt 16)

/-- Every UDID register has been written (R69). -/
def UdidWritten.all (w : UdidWritten) : Bool :=
  w.cap && w.ver && w.vendor && w.device && w.iface && w.subvendor && w.subdevice && w.vspec

/-- The marks after UDIDDEC, which writes all eight registers (R304). -/
def UdidWritten.full : UdidWritten :=
  { cap := true, ver := true, vendor := true, device := true, iface := true, subvendor := true, subdevice := true,
    vspec := true }

/-- `TXBUF[0..16] <- encode(udid, a)`, given to the rest of the command; a register nothing has written makes the run
invalid: "An unwritten TXBUF byte or UDID field that a command would read is a fault of the run" (D5; R69, R303, U3). -/
def withUdidPacket (s : State) (a : Byte) (k : State → Out) : Out :=
  if s.udidWritten.all then k { s with txbuf := s.txbuf.writeBytes 0 (udidEncode s.udid a) }
  else .fault .unwrittenUdid

/-- UDIDENC (R303). -/
def execUdidenc (address : Byte) (s : State) : Out :=
  whenInited s (withUdidPacket s address fun s1 => finish s1 .ok 0#8)

/-- UDIDDEC once RXBUF[0..16] have been read (R304). -/
def udidLoad (s : State) (bytes : List Byte) : Out :=
  finish { s with udid := (udidDecode bytes).1, udidWritten := .full } .ok (udidDecode bytes).2

/-- UDIDDEC (R304); an RXBUF byte nothing has written makes the run invalid (R69, U4). -/
def execUdiddec (s : State) : Out :=
  whenInited s
    (match s.rxbuf.readBytes 0 udidWireLen with
     | .ok bytes => udidLoad s bytes
     | .error i => .fault (.unwrittenRxByte i))

/-- ARPGUG (R305). -/
def execArpgug (s : State) : Out := whenInited s (startBlockRead s.arpParams.defaultAddr s.arpParams.getUdid s)

/-- ARPGUD (R306). -/
def execArpgud (device : BusAddr) (s : State) : Out :=
  whenInited s (startBlockRead s.arpParams.defaultAddr (arpDirected device s.arpParams.directedGetUdid) s)

/-- ARPRSTG (R307). -/
def execArprstg (s : State) : Out := whenInited s (startSendByte s.arpParams.defaultAddr s.arpParams.resetDevice s)

/-- ARPRSTD (R308). -/
def execArprstd (device : BusAddr) (s : State) : Out :=
  whenInited s (startSendByte s.arpParams.defaultAddr (arpDirected device s.arpParams.directedReset) s)

/-- ARPASSIGN (R309): the busy check comes before TXBUF is touched, and its one sample serves the start too. -/
def execArpassign (address : Byte) (s : State) : Out :=
  whenInited s
    (if s.inputs.periphBusy then finish s .peripheralBusy 0#8
     else withUdidPacket s address fun s1 => startBlockWrite s.arpParams.defaultAddr s.arpParams.assignAddr 17#8 s1)

/-- ARPNOTIFY (R310): the busy check comes before TXBUF is touched. -/
def execArpnotify (command : Byte) (s : State) : Out :=
  whenInited s
    (if s.inputs.periphBusy then finish s .peripheralBusy 0#8
     else startNotify command { s with txbuf := (s.txbuf.write 0 0#8).write 1 0#8 })

/-- ARPPREP (R311). -/
def execArpprep (s : State) : Out := whenInited s (startSendByte s.arpParams.defaultAddr s.arpParams.prepare s)

end Sys2Proof.Machine
end

