-- ==== Sys2Proof/Machine/ConfigCmds.lean ====
section
/-! DEFINITION. The ten configuration commands of 41_config.md. -/

namespace Sys2Proof.Machine

/-- The field writes both inits do (R40, R121): every counter, address, byte, cursor, flag, mirror and `udid_bound` to 0,
`inited` to 1; the UDID bank and the buffers are not written. -/
def State.initFields (s : State) : State :=
  { s with txSize := 0#8, txIndex := 0#8, rxSize := 0#8, rxIndex := 0#8, ownAddress := 0#7, targetAddress := 0#7,
           currentCommand := 0#8, computedCrc := 0#8, receivedCrc := 0#8, masterCursor := .idle,
           slaveCursor := .idle, flags := .clear, saddr0 := 0#7, saddr1 := 0#7, udidBound := false, inited := true }

/-- MINIT (R121). -/
def execMinit (s : State) : Out := finish s.initFields .ok 0#8

/-- SINIT (R122). -/
def execSinit (s : State) : Out := finish (s.initFields.emit .sEnable) .ok 0#8

/-- PECEN (R123). -/
def execPecen (s : State) : Out :=
  whenInited s (finish { s with flags := { s.flags with pec := true } } .ok 0#8)

/-- PECDIS (R124). -/
def execPecdis (s : State) : Out :=
  whenInited s (finish { s with flags := { s.flags with pec := false } } .ok 0#8)

/-- ARPEN (R125). -/
def execArpen (s : State) : Out :=
  whenInited s (finish { s with flags := { s.flags with arp := true } } .ok 0#8)

/-- ARPDIS (R126). -/
def execArpdis (s : State) : Out :=
  whenInited s (finish { s with flags := { s.flags with arp := false } } .ok 0#8)

/-- STATGET (R127). -/
def execStatget (s : State) : Out :=
  whenInited s (finish s (if s.flags.tip then .transferInProgress else .transferComplete) 0#8)

/-- RXCNT (R128). -/
def execRxcnt (s : State) : Out := whenInited s (finish s .ok s.rxIndex)

/-- MINTEN (R129). -/
def execMinten (s : State) : Out := whenInited s (finish (s.emit .mIen) .ok 0#8)

/-- SINTEN (R130). -/
def execSinten (s : State) : Out := whenInited s (finish (s.emit .sIen) .ok 0#8)

end Sys2Proof.Machine
end

