-- ==== Sys2Proof/Machine/MasterInt.lean ====
section
/-! DEFINITION. MINTP and the master state machine of 43_master_int.md: one definition per handler. -/

namespace Sys2Proof.Machine

/-- `txrem` (R216): wire bytes still to send. -/
def txRem (s : State) : Nat := txLeft s + txpec1 s

/-- `R` (R216): wire bytes still to receive. -/
def rxRem (s : State) : Nat := rxLeft s + pec1 s

/-- The transaction is over: cursor `Idle`, TIP cleared, and the status (R211, R213, R218, R229, R230). -/
def masterEnd (s : State) (status : Status) : Out := finish ((s.setMaster .idle).setTip false) status 0#8

/-- `Idle` (R217). -/
def masterIdle (s : State) : Out := finish (s.setTip false) .ok 0#8

/-- The default branch (R218). -/
def masterDefault (s : State) : Out := masterEnd s .masterError

/-- `tx_overrun` (R227). -/
def txOverrun (s : State) : Out := masterEnd (s.emit (.mCtl .errorStop)) .dataSizeError

/-- `rx_overrun` (R227). -/
def rxOverrun (s : State) : Out :=
  finish (((s.emit .mGet).emit (.mCtl .recvFinish)).setMaster .readErrorStop) .dataSizeError 0#8

/-- `WriteBlockSize` (R219): the condition does not look at `flags.PC`. -/
def masterWriteBlockSize (s : State) : Out :=
  let put := (s.emit (.mPut s.txSize)).fold s.txSize
  let next := if s.txSize = 1#8 ∧ s.flags.pec = false then Cursor.writeFinal else Cursor.writeNext
  finish ((put.setMaster next).emit (.mCtl .sendCont)) .ok 0#8

/-- `WriteNext` (R220). -/
def masterWriteNext (s : State) : Out :=
  if s.txSize ≤ s.txIndex then txOverrun s
  else withNextTx s fun b s1 =>
    let put := (s1.emit (.mPut b)).fold b
    let moved := if txRem put = 1 then put.setMaster .writeFinal else put
    finish (moved.emit (.mCtl .sendCont)) .ok 0#8

/-- The end of `WriteFinal` (R221): a process call holds the bus and turns round (R222), anything else finishes. -/
def masterWriteEnd (s : State) : Out :=
  if s.flags.pc then
    finish (((s.emit (.mCtl .sendCont)).setMaster .readFirst).setSlave turnaroundCursor) .ok 0#8
  else finish ((s.emit (.mCtl .sendFinish)).setMaster .idle) .ok 0#8

/-- `WriteFinal` (R221): the PEC byte, or the last data byte. -/
def masterWriteFinal (s : State) : Out :=
  if s.flags.pec && !s.flags.pc then masterWriteEnd (s.emit (.mPut s.computedCrc))
  else if s.txSize ≤ s.txIndex then txOverrun s
  else withNextTx s fun b s1 => masterWriteEnd ((s1.emit (.mPut b)).fold b)

/-- `select_read(first)` (R228), `r` the number of wire bytes still to come. -/
def selectRead (first : Bool) (r : Nat) (s : State) : State :=
  if r = 1 then (s.emit (.mCtl (if first then .singleReceive else .recvFinish))).setMaster .readWait
  else if r = 2 then (s.emit (.mCtl (if first then .recvStart else .recvCont))).setMaster .readFinal
  else (s.emit (.mCtl (if first then .recvStart else .recvCont))).setMaster .readNext

/-- `ReadOne` and `ReadFirst` (R223). -/
def masterReadFirst (s : State) : Out :=
  let turned := (s.emit (.mAddr s.targetAddress true)).fold (addrByte s.targetAddress true)
  if s.flags.blk then finish ((turned.emit (.mCtl .recvStart)).setMaster .readBlockSize) .ok 0#8
  else finish (selectRead true (rxRem turned) turned) .ok 0#8

/-- `ReadBlockSize` (R224): a size outside 1 to 32 is kept in `rx_size` and not folded. The bytes still to come
are `n + pec1`, as R224 and R231 write, so at least one is (R228), where R216's `R` counts from `rx_index`: DEDUCED (log
entry 22). A size below a `rx_index` that the slave engine left (R356) is an overrun that the next byte converts to an
error (R21, R227, R229): DEDUCED (log entry 17). -/
def masterReadBlockSize (s : State) : Out :=
  let n := s.inputs.data
  let got := { s.emit .mGet with rxSize := n }
  if blockSizeOk n then finish (selectRead false (n.toNat + pec1 got) (got.fold n)) .ok 0#8
  else finish ((got.emit (.mCtl .recvFinish)).setMaster .readErrorStop) .dataSizeError 0#8

/-- The byte obtained by `M_GET` is stored and folded (R225, R226). -/
def masterTake (s : State) : State := ((s.emit .mGet).storeRx s.inputs.data).fold s.inputs.data

/-- `ReadNext` (R225). -/
def masterReadNext (s : State) : Out :=
  if s.rxSize ≤ s.rxIndex then rxOverrun s
  else
    let taken := masterTake s
    let moved := if rxRem taken = 2 then taken.setMaster .readFinal else taken
    finish (moved.emit (.mCtl .recvCont)) .ok 0#8

/-- `ReadFinal` (R226). -/
def masterReadFinal (s : State) : Out :=
  if s.rxSize ≤ s.rxIndex then rxOverrun s
  else finish (((masterTake s).emit (.mCtl .recvFinish)).setMaster .readWait) .ok 0#8

/-- `ReadWait` (R229): with PEC the byte is the received CRC, compared and neither stored nor folded. -/
def masterReadWait (s : State) : Out :=
  let got := s.emit .mGet
  if s.flags.pec then
    masterEnd { got with receivedCrc := s.inputs.data }
      (if s.inputs.data = s.computedCrc then .ok else .pecError)
  else if s.rxSize ≤ s.rxIndex then masterEnd got .dataSizeError
  else masterEnd (got.storeRx s.inputs.data) .ok

/-- `ReadErrorStop` (R230). -/
def masterReadErrorStop (s : State) : Out := masterEnd (s.emit .mGet) .dataSizeError

/-- Dispatch on `master_cursor` (R215). -/
def masterDispatch (s : State) : Out :=
  match s.masterCursor with
  | .idle => masterIdle s
  | .slavePostCommand => masterDefault s
  | .writeBlockSize => masterWriteBlockSize s
  | .writeNext => masterWriteNext s
  | .writeFinal => masterWriteFinal s
  | .writeDone => masterDefault s
  | .readOne => masterReadFirst s
  | .readFirst => masterReadFirst s
  | .readBlockSize => masterReadBlockSize s
  | .readNext => masterReadNext s
  | .readFinal => masterReadFinal s
  | .readWait => masterReadWait s
  | .readPec => masterDefault s
  | .readDone => masterDefault s
  | .readErrorStop => masterReadErrorStop s
  | .unused => masterDefault s

/-- The NACK path (R214): with the bus still busy an error stop goes out and TIP is left as it is. -/
def masterNack (s : State) : Out :=
  let idle := s.setMaster .idle
  finish (if s.inputs.busBusy then idle.emit (.mCtl .errorStop) else idle.setTip false)
    (if s.inputs.errAddrNack then .addressAckError else .dataAckError) 0#8

/-- MINTP once the command is accepted (R210): timeout, then arbitration, then NACK, then the dispatch. -/
def masterInterrupt (s : State) : Out :=
  if s.inputs.intTimeout then masterEnd (s.emit .mIclrTimeout) .timeout
  else if s.inputs.errArb then masterEnd (s.emit .mIclrData) .arbitrationLost
  else if s.inputs.errAddrNack || s.inputs.errDataNack then masterNack (s.emit .mIclrData)
  else masterDispatch (s.emit .mIclrData)

/-- MINTP (R210). -/
def execMintp (s : State) : Out := whenInited s (masterInterrupt s)

end Sys2Proof.Machine
end

