-- ==== Sys2Proof/Machine/SlaveCmds.lean ====
section
/-! DEFINITION. The slave setters, getters and manual-acknowledge commands of 44_slave.md section 4. -/

namespace Sys2Proof.Machine

/-- `zext_8` of one bit (R12). -/
def bitByte (b : Bool) : Byte := if b then 1#8 else 0#8

/-- SMACKEN (R276). -/
def execSmacken (s : State) : Out := whenInited s (finish (s.emit (.sAckOvr true)) .ok 0#8)

/-- SMACKDIS (R277). -/
def execSmackdis (s : State) : Out := whenInited s (finish (s.emit (.sAckOvr false)) .ok 0#8)

/-- SMACKGET (R278): the transport's bit; the block keeps no copy. -/
def execSmackget (s : State) : Out := whenInited s (finish s .ok (bitByte s.inputs.ackOverride))

/-- SACKSEND (R279). -/
def execSacksend (ack : Bool) (s : State) : Out := whenInited s (finish (s.emit (.sAckVal ack)) .ok 0#8)

/-- SXFERINIT (R281): `rx_size` and the mode flags are kept. -/
def execSxferinit (s : State) : Out :=
  whenInited s (finish { s with txIndex := 0#8, rxIndex := 0#8, txSize := 0#8, computedCrc := 0#8, receivedCrc := 0#8,
                                slaveCursor := .idle, flags := { s.flags with tip := false } } .ok 0#8)

/-- STXSET (R282). -/
def execStxset (size : Byte) (s : State) : Out :=
  whenInited s (finish { s with txSize := size, txIndex := 0#8 } .ok 0#8)

/-- SRXSET (R283). -/
def execSrxset (size : Byte) (s : State) : Out :=
  whenInited s (finish { s with rxSize := size, rxIndex := 0#8 } .ok 0#8)

/-- The mirror write of SADDRSET (R26, R284): slot 0 is `saddr0`, slot 1 `saddr1`. -/
def State.setOwn (s : State) (address : BusAddr) (slot : Bool) : State :=
  if slot then { s with saddr1 := address } else { s with saddr0 := address }

/-- SADDRSET (R284). -/
def execSaddrset (address : BusAddr) (slot : Bool) (s : State) : Out :=
  whenInited s (finish ((s.setOwn address slot).emit (.sAddr slot address)) .ok 0#8)

/-- SADDRGET (R285): the transport's status, not `own_address`. -/
def execSaddrget (s : State) : Out :=
  whenInited s (finish s (if s.inputs.stOwn2 then .secondaryAddressMatched else .primaryAddressMatched) 0#8)

/-- SCMDGET (R286). -/
def execScmdget (s : State) : Out := whenInited s (finish s .ok s.currentCommand)

/-- SPCEN (R287). -/
def execSpcen (s : State) : Out :=
  whenInited s (finish { s with flags := { s.flags with pc := true } } .ok 0#8)

/-- SPCDIS (R288). -/
def execSpcdis (s : State) : Out :=
  whenInited s (finish { s with flags := { s.flags with pc := false } } .ok 0#8)

/-- SBLKEN (R289). -/
def execSblken (s : State) : Out :=
  whenInited s (finish { s with flags := { s.flags with blk := true } } .ok 0#8)

/-- SBLKDIS (R290). -/
def execSblkdis (s : State) : Out :=
  whenInited s (finish { s with flags := { s.flags with blk := false } } .ok 0#8)

/-- SI2CEN (R291): `flags.PEC` is not touched. -/
def execSi2cen (s : State) : Out :=
  whenInited s (finish { s with flags := { s.flags with raw := true } } .ok 0#8)

/-- SI2CDIS (R292). -/
def execSi2cdis (s : State) : Out :=
  whenInited s (finish { s with flags := { s.flags with raw := false } } .ok 0#8)

/-- SARGET (R293). -/
def execSarget (s : State) : Out := whenInited s (finish s .ok (bitByte s.flags.ar))

/-- SARSET (R294). -/
def execSarset (value : Bool) (s : State) : Out :=
  whenInited s (finish { s with flags := { s.flags with ar := value } } .ok 0#8)

/-- SAVGET (R295). -/
def execSavget (s : State) : Out := whenInited s (finish s .ok (bitByte s.flags.av))

/-- SAVSET (R296). -/
def execSavset (value : Bool) (s : State) : Out :=
  whenInited s (finish { s with flags := { s.flags with av := value } } .ok 0#8)

/-- SUDIDSET (R297). -/
def execSudidset (s : State) : Out := whenInited s (finish { s with udidBound := true } .ok 0#8)

end Sys2Proof.Machine
end

