-- ==== Sys2Proof/Machine/SlaveInt.lean ====
section
/-! DEFINITION. SINTP, SDSEND and the slave state machine of 44_slave.md. -/

namespace Sys2Proof.Machine

/-- Own-address capture (R256): the mirror of the slot the transport says matched. -/
def State.captureOwn (s : State) : State :=
  { s with ownAddress := if s.inputs.stOwn2 then s.saddr1 else s.saddr0 }

/-- `exchanged` (R254). -/
def exchanged (s : State) : Bool :=
  decide (s.rxIndex ≠ 0#8) || decide (s.txIndex ≠ 0#8) || decide (s.slaveCursor ≠ .idle)

/-- STOP (R252, R253), after the interrupt clear: TIP is cleared first on every path. -/
def slaveStop (s : State) : Out :=
  let s1 := s.setTip false
  if s.inputs.stQcmd then
    if exchanged s then finish s1 .slaveError 0#8
    else finish s1 (if s.inputs.stQcmdRw then .quickCommandOne else .quickCommandZero) 0#8
  else finish (s1.setSlave .idle) .transferComplete 0#8

/-- The slave's PEC seed on the first received byte (R115): a fresh seed, then the byte. -/
def State.seedSlave (s : State) (b : Byte) : State :=
  { s with computedCrc :=
      if s.flags.pec then crc8 (crc8 0#8 [addrByte s.ownAddress false]) [b] else s.computedCrc }

/-- The rest of the first-byte handler once the byte has been placed (R261). -/
def slaveFirstEnd (s : State) (b : Byte) : Out :=
  finish (((s.seedSlave b).setSlave .slavePostCommand).setTip true) .firstByte 0#8

/-- Receive first byte (R261); the raw-mode store outside the declared capacity makes the run invalid (R262, U2). -/
def slaveFirstByte (s : State) : Out :=
  let b := s.inputs.data
  let got := s.captureOwn.emit .sGet
  if s.flags.raw then
    if s.rxSize ≤ s.rxIndex then .fault (.rawStoreBeyondCapacity s.rxIndex.toNat)
    else slaveFirstEnd (got.storeRx b) b
  else slaveFirstEnd { got with currentCommand := b } b

/-- The cursor after a payload byte was stored (R258). -/
def afterStore (s : State) : Cursor :=
  if s.rxIndex = s.rxSize then (if s.flags.pec && !s.flags.pc then .readPec else .readDone) else .readNext

/-- `store_payload(b)` (R258): with the buffer full the byte is dropped, not folded, and the cursor kept. -/
def storePayload (s : State) (b : Byte) : Out :=
  if s.rxSize ≤ s.rxIndex then finish s .slaveError 0#8
  else
    let stored := (s.storeRx b).fold b
    finish (stored.setSlave (afterStore stored)) .ok 0#8

/-- The block size byte (R263): rejected above the capacity, else adopted and folded. A stale `rx_index` keeps its value
(R362), also above the adopted size, an overrun that the next byte converts to an error (R21, R258): DEDUCED (log entry
17). -/
def slaveBlockSize (s : State) (b : Byte) : Out :=
  if s.rxSize < b then finish (s.setSlave .readDone) .dataSizeError 0#8
  else finish ((({ s with rxSize := b } : State).fold b).setSlave .readNext) .ok 0#8

/-- A byte in `ReadPEC` with PEC off (after PECDIS, or with the turn-around value `ReadPEC`): "no rule reads either field and
no rule but the resets writes them" (R25), and PECDIS "drops the PEC byte" (R131). The end of R267 is then a free value:
DESIGN CHOICE (log entry 21). -/
def slavePecOff (s : State) : Out :=
  let drawn := { s with freeDraws := s.freeDraws + 1 }
  match Config.pecOffEnd s.freeDraws with
  | .agrees => finish (drawn.setSlave .readDone) .ok 0#8
  | .differs => finish drawn .pecError 0#8
  | .unexpected => finish drawn .slaveError 0#8

/-- `ReadPEC` (R267): with PEC on the byte is stored and compared, and on mismatch the cursor stays; with PEC off R25
holds. -/
def slaveReadPec (s : State) (b : Byte) : Out :=
  let got := { s with receivedCrc := b }
  if s.flags.pec then
    if b = s.computedCrc then finish (got.setSlave .readDone) .ok 0#8 else finish got .pecError 0#8
  else slavePecOff s

/-- Receive-subsequent (R260): `S_GET` whatever the cursor, then the dispatch; a byte with no handler is discarded
(R268). -/
def slaveReceive (s : State) : Out :=
  let b := s.inputs.data
  let got := s.emit .sGet
  match s.slaveCursor with
  | .slavePostCommand => if s.flags.blk then slaveBlockSize got b else storePayload got b
  | .readNext => storePayload got b
  | .readPec => slaveReadPec got b
  | .idle => finish got .slaveError 0#8
  | .writeBlockSize => finish got .slaveError 0#8
  | .writeNext => finish got .slaveError 0#8
  | .writeFinal => finish got .slaveError 0#8
  | .writeDone => finish got .slaveError 0#8
  | .readOne => finish got .slaveError 0#8
  | .readFirst => finish got .slaveError 0#8
  | .readBlockSize => finish got .slaveError 0#8
  | .readFinal => finish got .slaveError 0#8
  | .readWait => finish got .slaveError 0#8
  | .readDone => finish got .slaveError 0#8
  | .readErrorStop => finish got .slaveError 0#8
  | .unused => finish got .slaveError 0#8

/-- The cursor values at which a transmitted byte is the first of a direction (R269, R270). -/
def beginsDirection (c : Cursor) : Bool :=
  c == .idle || c == .slavePostCommand || c == .readNext || c == .readDone

/-- `next_tx_state` (R259): by the wire bytes still to send. -/
def State.nextTxState (s : State) : State :=
  let rem := txLeft s + pec1 s
  s.setSlave (if 2 ≤ rem then .writeNext else if rem = 1 then .writeFinal else .writeDone)

/-- The end of `first_tx` once the byte is selected (R271): address and byte folded into the running accumulator. -/
def slaveFirstTxEnd (s : State) (b : Byte) : Out :=
  finish (((((s.fold (addrByte s.ownAddress true)).fold b).emit (.sPut b)).setTip true).nextTxState) .ok 0#8

/-- `first_tx` (R271) with the byte selection of R272. -/
def slaveFirstTx (s : State) : Out :=
  if s.flags.blk then slaveFirstTxEnd s s.txSize
  else if s.txIndex < s.txSize then withNextTx s fun b s1 => slaveFirstTxEnd s1 b
  else slaveFirstTxEnd s filler

/-- `next_tx` (R273). -/
def slaveNextTx (s : State) : Out :=
  if s.txIndex < s.txSize then
    withNextTx s fun b s1 => finish (((s1.fold b).emit (.sPut b)).nextTxState) .ok 0#8
  else if s.flags.pec then finish ((s.emit (.sPut s.computedCrc)).setSlave .writeDone) .ok 0#8
  else finish ((s.emit (.sPut filler)).setSlave .writeDone) .ok 0#8

/-- `slave_tx` (R270, R274), shared by SINTP and SDSEND. -/
def slaveTx (s : State) : Out :=
  if s.txSize = 0#8 then finish s .slaveNotReady 0#8
  else
    match s.slaveCursor with
    | .idle => slaveFirstTx s
    | .slavePostCommand => slaveFirstTx s
    | .readNext => slaveFirstTx s
    | .readDone => slaveFirstTx s
    | .writeNext => slaveNextTx s
    | .writeFinal => slaveNextTx s
    | .writeDone => finish (s.emit (.sPut filler)) .ok 0#8
    | .writeBlockSize => finish (s.emit (.sPut filler)) .slaveError 0#8
    | .readOne => finish (s.emit (.sPut filler)) .slaveError 0#8
    | .readFirst => finish (s.emit (.sPut filler)) .slaveError 0#8
    | .readBlockSize => finish (s.emit (.sPut filler)) .slaveError 0#8
    | .readFinal => finish (s.emit (.sPut filler)) .slaveError 0#8
    | .readWait => finish (s.emit (.sPut filler)) .slaveError 0#8
    | .readPec => finish (s.emit (.sPut filler)) .slaveError 0#8
    | .readErrorStop => finish (s.emit (.sPut filler)) .slaveError 0#8
    | .unused => finish (s.emit (.sPut filler)) .slaveError 0#8

/-- Transmit request (R269): the matched address is captured at the first byte of a direction. -/
def slaveTransmit (s : State) : Out :=
  slaveTx (if beginsDirection s.slaveCursor then s.captureOwn else s)

/-- The DATA sub-dispatch (R255): first byte, then receive, then transmit request, else nothing more. -/
def slaveData (s : State) : Out :=
  if s.inputs.stFbr then slaveFirstByte s
  else if s.inputs.stRreq then slaveReceive s
  else if s.inputs.stTreq then slaveTransmit s
  else finish s .ok 0#8

/-- SINTP once the command is accepted (R250): START continues, STOP returns, DATA only without STOP. -/
def slaveInterrupt (s : State) : Out :=
  let s1 := if s.inputs.intStart then s.emit .sIclrStart else s
  if s.inputs.intStop then slaveStop (s1.emit .sIclrStop)
  else if s.inputs.intData then slaveData (s1.emit .sIclrData)
  else finish s1 .ok 0#8

/-- SINTP (R250). -/
def execSintp (s : State) : Out := whenInited s (slaveInterrupt s)

/-- SDSEND (R280): `slave_tx` without the address capture and without an interrupt clear. -/
def execSdsend (s : State) : Out := whenInited s (slaveTx s)

end Sys2Proof.Machine
end

