-- ==== Sys2Proof/Syntax.lean ====
section
/-! DEFINITION. The command set: one constructor for each of the 56 rows of the opcode map (R85). -/

namespace Sys2Proof

/-- A command with its operands. Every operand has exactly the width its format gives it (R81), is unsigned and is the
number itself (R82): an address is the 7-bit bus address, a one-bit operand is a Bool (true is 1). The docstring of a
constructor names its mnemonic, its format, its opcode and its rule. -/
inductive Instr where
  /-- MINIT, master-init: F0, 0x01 (R121). -/
  | minit
  /-- SINIT, slave-init: F0, 0x02 (R122). -/
  | sinit
  /-- PECEN, enable PEC: F0, 0x03 (R123). -/
  | pecen
  /-- PECDIS, disable PEC: F0, 0x04 (R124). -/
  | pecdis
  /-- ARPEN, set ARP-session-active: F0, 0x05 (R125). -/
  | arpen
  /-- ARPDIS, clear ARP-session-active: F0, 0x06 (R126). -/
  | arpdis
  /-- STATGET, transfer status: F0, 0x07 (R127). -/
  | statget
  /-- RXCNT, received byte count: F0, 0x08 (R128). -/
  | rxcnt
  /-- MINTEN, enable the transport's master interrupts: F0, 0x09 (R129). -/
  | minten
  /-- SINTEN, enable the transport's slave interrupts: F0, 0x0A (R130). -/
  | sinten
  /-- MQUICK, Quick Command: FTb, 0x10 (R180). -/
  | mquick (target : BusAddr) (bit : Bool)
  /-- MSENDB, Send Byte: FTB, 0x11 (R181). -/
  | msendb (target : BusAddr) (data : Byte)
  /-- MRECVB, Receive Byte: FT, 0x12 (R182). -/
  | mrecvb (target : BusAddr)
  /-- MWRITE, Write Byte or Word: FTBC, 0x13 (R183). -/
  | mwrite (target : BusAddr) (command : Byte) (size : Byte)
  /-- MREAD, Read Byte or Word: FTBC, 0x14 (R184). -/
  | mread (target : BusAddr) (command : Byte) (size : Byte)
  /-- MBLKWR, Block Write: FTBC, 0x15 (R185). -/
  | mblkwr (target : BusAddr) (command : Byte) (size : Byte)
  /-- MBLKRD, Block Read: FTB, 0x16 (R186). -/
  | mblkrd (target : BusAddr) (command : Byte)
  /-- MPCALL, Process Call: FTB, 0x17 (R187). -/
  | mpcall (target : BusAddr) (command : Byte)
  /-- MBPCALL, Block Process Call: FTBC, 0x18 (R188). -/
  | mbpcall (target : BusAddr) (command : Byte) (size : Byte)
  /-- MNOTIFY, Host Notify: FA, 0x19 (R189). -/
  | mnotify (command : Byte)
  /-- MI2CWR, raw I2C write: FTC, 0x1A (R194). -/
  | mi2cwr (target : BusAddr) (size : Byte)
  /-- MI2CRD, raw I2C read: FTC, 0x1B (R195). -/
  | mi2crd (target : BusAddr) (size : Byte)
  /-- MI2CWRRD, raw I2C write then read: FTNN, 0x1C (R196). -/
  | mi2cwrrd (target : BusAddr) (txSize : Byte) (rxSize : Byte)
  /-- MINTP, process master interrupt: F0, 0x1F (R210). -/
  | mintp
  /-- ARPGUG, general Get UDID: F0, 0x20 (R305). -/
  | arpgug
  /-- ARPGUD, directed Get UDID: FT, 0x21 (R306). -/
  | arpgud (device : BusAddr)
  /-- ARPRSTG, general Reset Device: F0, 0x22 (R307). -/
  | arprstg
  /-- ARPRSTD, directed Reset Device: FT, 0x23 (R308). -/
  | arprstd (device : BusAddr)
  /-- ARPASSIGN, Assign Address: FA, 0x24 (R309). -/
  | arpassign (address : Byte)
  /-- ARPNOTIFY, Notify ARP Master: FA, 0x25 (R310). -/
  | arpnotify (command : Byte)
  /-- ARPPREP, Prepare to ARP: F0, 0x26 (R311). -/
  | arpprep
  /-- UDIDENC, encode the UDID bank into TXBUF: FA, 0x27 (R303). -/
  | udidenc (address : Byte)
  /-- UDIDDEC, decode RXBUF into the UDID bank: F0, 0x28 (R304). -/
  | udiddec
  /-- SADDRSET, set an own address (slot false primary, true secondary): FTb, 0x30 (R284). -/
  | saddrset (address : BusAddr) (slot : Bool)
  /-- STXSET, declare the slave TX payload: FC, 0x31 (R282). -/
  | stxset (size : Byte)
  /-- SRXSET, declare the slave RX capacity: FC, 0x32 (R283). -/
  | srxset (size : Byte)
  /-- SCMDGET, read the captured command byte: F0, 0x33 (R286). -/
  | scmdget
  /-- SPCEN, set process-call mode: F0, 0x34 (R287). -/
  | spcen
  /-- SPCDIS, clear process-call mode: F0, 0x35 (R288). -/
  | spcdis
  /-- SBLKEN, set block-transfer mode: F0, 0x36 (R289). -/
  | sblken
  /-- SBLKDIS, clear block-transfer mode: F0, 0x37 (R290). -/
  | sblkdis
  /-- SI2CEN, set raw-I2C mode: F0, 0x38 (R291). -/
  | si2cen
  /-- SI2CDIS, clear raw-I2C mode: F0, 0x39 (R292). -/
  | si2cdis
  /-- SARGET, read address-resolved: F0, 0x3A (R293). -/
  | sarget
  /-- SARSET, write address-resolved: Fa, 0x3B (R294). -/
  | sarset (value : Bool)
  /-- SAVGET, read address-valid: F0, 0x3C (R295). -/
  | savget
  /-- SAVSET, write address-valid: Fa, 0x3D (R296). -/
  | savset (value : Bool)
  /-- SUDIDSET, bind the UDID record: F0, 0x3E (R297). -/
  | sudidset
  /-- SMACKEN, enable manual acknowledge: F0, 0x40 (R276). -/
  | smacken
  /-- SMACKDIS, disable manual acknowledge: F0, 0x41 (R277). -/
  | smackdis
  /-- SMACKGET, read the manual-acknowledge enable: F0, 0x42 (R278). -/
  | smackget
  /-- SACKSEND, send an explicit acknowledge value: Fa, 0x43 (R279). -/
  | sacksend (ack : Bool)
  /-- SDSEND, out-of-band slave data send: F0, 0x44 (R280). -/
  | sdsend
  /-- SXFERINIT, transfer init: F0, 0x45 (R281). -/
  | sxferinit
  /-- SADDRGET, which own address matched: F0, 0x46 (R285). -/
  | saddrget
  /-- SINTP, process slave interrupt: F0, 0x4F (R250). -/
  | sintp
  deriving DecidableEq, Repr

end Sys2Proof
end

