-- ==== Sys2Proof/Machine/Dispatch.lean ====
section
/-! DEFINITION. The dispatch: one arm per command, each one direct call of its meaning. -/

namespace Sys2Proof.Machine

def exec (i : Instr) (s : State) : Host.Outcome State Fault Refusal :=
  match i with
  | .minit => Sys2Proof.Machine.execMinit s
  | .sinit => Sys2Proof.Machine.execSinit s
  | .pecen => Sys2Proof.Machine.execPecen s
  | .pecdis => Sys2Proof.Machine.execPecdis s
  | .arpen => Sys2Proof.Machine.execArpen s
  | .arpdis => Sys2Proof.Machine.execArpdis s
  | .statget => Sys2Proof.Machine.execStatget s
  | .rxcnt => Sys2Proof.Machine.execRxcnt s
  | .minten => Sys2Proof.Machine.execMinten s
  | .sinten => Sys2Proof.Machine.execSinten s
  | .mquick target bit => Sys2Proof.Machine.execMquick target bit s
  | .msendb target data => Sys2Proof.Machine.execMsendb target data s
  | .mrecvb target => Sys2Proof.Machine.execMrecvb target s
  | .mwrite target command size => Sys2Proof.Machine.execMwrite target command size s
  | .mread target command size => Sys2Proof.Machine.execMread target command size s
  | .mblkwr target command size => Sys2Proof.Machine.execMblkwr target command size s
  | .mblkrd target command => Sys2Proof.Machine.execMblkrd target command s
  | .mpcall target command => Sys2Proof.Machine.execMpcall target command s
  | .mbpcall target command size => Sys2Proof.Machine.execMbpcall target command size s
  | .mnotify command => Sys2Proof.Machine.execMnotify command s
  | .mi2cwr target size => Sys2Proof.Machine.execMi2cwr target size s
  | .mi2crd target size => Sys2Proof.Machine.execMi2crd target size s
  | .mi2cwrrd target txSize rxSize => Sys2Proof.Machine.execMi2cwrrd target txSize rxSize s
  | .mintp => Sys2Proof.Machine.execMintp s
  | .arpgug => Sys2Proof.Machine.execArpgug s
  | .arpgud device => Sys2Proof.Machine.execArpgud device s
  | .arprstg => Sys2Proof.Machine.execArprstg s
  | .arprstd device => Sys2Proof.Machine.execArprstd device s
  | .arpassign address => Sys2Proof.Machine.execArpassign address s
  | .arpnotify command => Sys2Proof.Machine.execArpnotify command s
  | .arpprep => Sys2Proof.Machine.execArpprep s
  | .udidenc address => Sys2Proof.Machine.execUdidenc address s
  | .udiddec => Sys2Proof.Machine.execUdiddec s
  | .saddrset address slot => Sys2Proof.Machine.execSaddrset address slot s
  | .stxset size => Sys2Proof.Machine.execStxset size s
  | .srxset size => Sys2Proof.Machine.execSrxset size s
  | .scmdget => Sys2Proof.Machine.execScmdget s
  | .spcen => Sys2Proof.Machine.execSpcen s
  | .spcdis => Sys2Proof.Machine.execSpcdis s
  | .sblken => Sys2Proof.Machine.execSblken s
  | .sblkdis => Sys2Proof.Machine.execSblkdis s
  | .si2cen => Sys2Proof.Machine.execSi2cen s
  | .si2cdis => Sys2Proof.Machine.execSi2cdis s
  | .sarget => Sys2Proof.Machine.execSarget s
  | .sarset value => Sys2Proof.Machine.execSarset value s
  | .savget => Sys2Proof.Machine.execSavget s
  | .savset value => Sys2Proof.Machine.execSavset value s
  | .sudidset => Sys2Proof.Machine.execSudidset s
  | .smacken => Sys2Proof.Machine.execSmacken s
  | .smackdis => Sys2Proof.Machine.execSmackdis s
  | .smackget => Sys2Proof.Machine.execSmackget s
  | .sacksend ack => Sys2Proof.Machine.execSacksend ack s
  | .sdsend => Sys2Proof.Machine.execSdsend s
  | .sxferinit => Sys2Proof.Machine.execSxferinit s
  | .saddrget => Sys2Proof.Machine.execSaddrget s
  | .sintp => Sys2Proof.Machine.execSintp s

end Sys2Proof.Machine
end

