-- ==== Sys2Proof/WellFormed.lean ====
section
/-! DEFINITION. When a command word is well-formed (R81, R83, R84, R85): its opcode has a row and every bit the row's
format reserves is 0. An `Instr` needs no check of its own: the types of its operands admit exactly the values of R81. -/

namespace Sys2Proof

/-- The ten operand formats (R81). `ftbit` is the spec's FTb and `fabit` its Fa. -/
inductive Format where
  | f0 | ft | ftb | ftbit | ftbc | ftc | ftnn | fa | fabit | fc
  deriving DecidableEq, Repr

/-- The bits of operand byte A that the format reserves (R81, column A). -/
def Format.reservedA : Format → Byte
  | .f0 => 0xFF#8
  | .ft => 0x80#8
  | .ftb => 0x80#8
  | .ftbit => 0x80#8
  | .ftbc => 0x80#8
  | .ftc => 0x80#8
  | .ftnn => 0x80#8
  | .fa => 0x00#8
  | .fabit => 0xFE#8
  | .fc => 0xFF#8

/-- The bits of operand byte B that the format reserves (R81, column B). -/
def Format.reservedB : Format → Byte
  | .f0 => 0xFF#8
  | .ft => 0xFF#8
  | .ftb => 0x00#8
  | .ftbit => 0xFE#8
  | .ftbc => 0x00#8
  | .ftc => 0xFF#8
  | .ftnn => 0x00#8
  | .fa => 0xFF#8
  | .fabit => 0xFF#8
  | .fc => 0xFF#8

/-- The bits of operand byte C that the format reserves (R81, column C). -/
def Format.reservedC : Format → Byte
  | .f0 => 0xFF#8
  | .ft => 0xFF#8
  | .ftb => 0xFF#8
  | .ftbit => 0xFF#8
  | .ftbc => 0x00#8
  | .ftc => 0x00#8
  | .ftnn => 0x00#8
  | .fa => 0xFF#8
  | .fabit => 0xFF#8
  | .fc => 0x00#8

/-- The row's mask of R85: the opcode byte and every reserved bit, so that a word `w` selects a row exactly when
`w &&& mask` is the row's match. -/
def Format.mask (f : Format) : Word :=
  f.reservedC ++ f.reservedB ++ f.reservedA ++ 0xFF#8

/-- One row of the opcode map (R85). -/
structure OpcodeRow where
  opc : Byte
  mnemonic : String
  format : Format
  deriving DecidableEq, Repr

/-- The row's match of R85: the opcode with every other bit 0. -/
def OpcodeRow.matchWord (r : OpcodeRow) : Word := r.opc.setWidth 32

/-- The rows of 41_config.md. -/
def opcodeRowsConfig : List OpcodeRow := [
  ⟨0x01#8, "MINIT", .f0⟩,
  ⟨0x02#8, "SINIT", .f0⟩,
  ⟨0x03#8, "PECEN", .f0⟩,
  ⟨0x04#8, "PECDIS", .f0⟩,
  ⟨0x05#8, "ARPEN", .f0⟩,
  ⟨0x06#8, "ARPDIS", .f0⟩,
  ⟨0x07#8, "STATGET", .f0⟩,
  ⟨0x08#8, "RXCNT", .f0⟩,
  ⟨0x09#8, "MINTEN", .f0⟩,
  ⟨0x0A#8, "SINTEN", .f0⟩]

/-- The rows of 42_master_start.md and 43_master_int.md. -/
def opcodeRowsMaster : List OpcodeRow := [
  ⟨0x10#8, "MQUICK", .ftbit⟩,
  ⟨0x11#8, "MSENDB", .ftb⟩,
  ⟨0x12#8, "MRECVB", .ft⟩,
  ⟨0x13#8, "MWRITE", .ftbc⟩,
  ⟨0x14#8, "MREAD", .ftbc⟩,
  ⟨0x15#8, "MBLKWR", .ftbc⟩,
  ⟨0x16#8, "MBLKRD", .ftb⟩,
  ⟨0x17#8, "MPCALL", .ftb⟩,
  ⟨0x18#8, "MBPCALL", .ftbc⟩,
  ⟨0x19#8, "MNOTIFY", .fa⟩,
  ⟨0x1A#8, "MI2CWR", .ftc⟩,
  ⟨0x1B#8, "MI2CRD", .ftc⟩,
  ⟨0x1C#8, "MI2CWRRD", .ftnn⟩,
  ⟨0x1F#8, "MINTP", .f0⟩]

/-- The rows of 45_arp.md. -/
def opcodeRowsArp : List OpcodeRow := [
  ⟨0x20#8, "ARPGUG", .f0⟩,
  ⟨0x21#8, "ARPGUD", .ft⟩,
  ⟨0x22#8, "ARPRSTG", .f0⟩,
  ⟨0x23#8, "ARPRSTD", .ft⟩,
  ⟨0x24#8, "ARPASSIGN", .fa⟩,
  ⟨0x25#8, "ARPNOTIFY", .fa⟩,
  ⟨0x26#8, "ARPPREP", .f0⟩,
  ⟨0x27#8, "UDIDENC", .fa⟩,
  ⟨0x28#8, "UDIDDEC", .f0⟩]

/-- The rows of 44_slave.md. -/
def opcodeRowsSlave : List OpcodeRow := [
  ⟨0x30#8, "SADDRSET", .ftbit⟩,
  ⟨0x31#8, "STXSET", .fc⟩,
  ⟨0x32#8, "SRXSET", .fc⟩,
  ⟨0x33#8, "SCMDGET", .f0⟩,
  ⟨0x34#8, "SPCEN", .f0⟩,
  ⟨0x35#8, "SPCDIS", .f0⟩,
  ⟨0x36#8, "SBLKEN", .f0⟩,
  ⟨0x37#8, "SBLKDIS", .f0⟩,
  ⟨0x38#8, "SI2CEN", .f0⟩,
  ⟨0x39#8, "SI2CDIS", .f0⟩,
  ⟨0x3A#8, "SARGET", .f0⟩,
  ⟨0x3B#8, "SARSET", .fabit⟩,
  ⟨0x3C#8, "SAVGET", .f0⟩,
  ⟨0x3D#8, "SAVSET", .fabit⟩,
  ⟨0x3E#8, "SUDIDSET", .f0⟩,
  ⟨0x40#8, "SMACKEN", .f0⟩,
  ⟨0x41#8, "SMACKDIS", .f0⟩,
  ⟨0x42#8, "SMACKGET", .f0⟩,
  ⟨0x43#8, "SACKSEND", .fabit⟩,
  ⟨0x44#8, "SDSEND", .f0⟩,
  ⟨0x45#8, "SXFERINIT", .f0⟩,
  ⟨0x46#8, "SADDRGET", .f0⟩,
  ⟨0x4F#8, "SINTP", .f0⟩]

/-- The opcode map, 56 rows in the table's order (R85). -/
def opcodeRows : List OpcodeRow :=
  opcodeRowsConfig ++ opcodeRowsMaster ++ opcodeRowsArp ++ opcodeRowsSlave

/-- A word selects a row when `w &&& mask` is the row's match (R85). -/
def OpcodeRow.selects (r : OpcodeRow) (w : Word) : Bool := w &&& r.format.mask == r.matchWord

/-- A well-formed command word: some row selects it (R83, R84). Whether the block may run it also depends on `inited`
(R34), which is state and not form. -/
def wellFormedWord (w : Word) : Bool := opcodeRows.any (·.selects w)

end Sys2Proof
end

