-- ==== Sys2Proof/Decode.lean ====
section
/-! DEFINITION. The decoder and the encoder of the command word (R80 to R87). The decoder is written from the formats of
R81 and the opcodes of R85, independently of the masks of WellFormed.lean. -/

namespace Sys2Proof

/-- Why a word is no command (R84); both are met with CmdErr (R322). -/
inductive DecodeError where
  /-- OPC is in no row of R85. -/
  | illegalOpcode (opc : Byte)
  /-- A bit the format says must be 0 is 1 (R83). -/
  | reservedBitSet (opc : Byte)
  deriving DecidableEq, Repr

/-- Bits 7:0, the opcode (R80). -/
def opcOf (w : Word) : Byte := w.extractLsb' 0 8
/-- Bits 15:8, the first operand byte (R80). -/
def opaOf (w : Word) : Byte := w.extractLsb' 8 8
/-- Bits 23:16, the second operand byte (R80). -/
def opbOf (w : Word) : Byte := w.extractLsb' 16 8
/-- Bits 31:24, the third operand byte (R80). -/
def opcByteOf (w : Word) : Byte := w.extractLsb' 24 8

/-- The command word of an opcode and three operand bytes (R80). -/
def commandWord (opc a b c : Byte) : Word :=
  c.setWidth 32 <<< 24 ||| b.setWidth 32 <<< 16 ||| a.setWidth 32 <<< 8 ||| opc.setWidth 32

/-- `A[7]` must be 0 and `A[6:0]` is the address (R81); the address itself, unshifted (R82). -/
def addrOperand (a : Byte) : Option BusAddr := if a.msb then none else some (a.setWidth 7)

/-- `X[7:1]` must be 0 and `X[0]` is the operand (R81). -/
def bitOperand (x : Byte) : Option Bool := if x = 0#8 then some false else if x = 1#8 then some true else none

/-- Formats of R81: the instruction whose operands the bytes A, B, C hold, none where a reserved bit is set. -/
def readF0 (i : Instr) (a b c : Byte) : Option Instr :=
  if a = 0#8 ∧ b = 0#8 ∧ c = 0#8 then some i else none
/-- Format FT (R81). -/
def readFT (f : BusAddr → Instr) (a b c : Byte) : Option Instr :=
  if b = 0#8 ∧ c = 0#8 then (addrOperand a).map f else none
/-- Format FTB (R81). -/
def readFTB (f : BusAddr → Byte → Instr) (a b c : Byte) : Option Instr :=
  if c = 0#8 then (addrOperand a).map (f · b) else none
/-- Format FTb (R81). -/
def readFTbit (f : BusAddr → Bool → Instr) (a b c : Byte) : Option Instr :=
  if c = 0#8 then (addrOperand a).bind fun t => (bitOperand b).map (f t) else none
/-- Format FTBC (R81). -/
def readFTBC (f : BusAddr → Byte → Byte → Instr) (a b c : Byte) : Option Instr :=
  (addrOperand a).map (f · b c)
/-- Format FTC (R81). -/
def readFTC (f : BusAddr → Byte → Instr) (a b c : Byte) : Option Instr :=
  if b = 0#8 then (addrOperand a).map (f · c) else none
/-- Format FTNN (R81). -/
def readFTNN (f : BusAddr → Byte → Byte → Instr) (a b c : Byte) : Option Instr :=
  (addrOperand a).map (f · b c)
/-- Format FA (R81). -/
def readFA (f : Byte → Instr) (a b c : Byte) : Option Instr :=
  if b = 0#8 ∧ c = 0#8 then some (f a) else none
/-- Format Fa (R81). -/
def readFAbit (f : Bool → Instr) (a b c : Byte) : Option Instr :=
  if b = 0#8 ∧ c = 0#8 then (bitOperand a).map f else none
/-- Format FC (R81). -/
def readFC (f : Byte → Instr) (a b c : Byte) : Option Instr :=
  if a = 0#8 ∧ b = 0#8 then some (f c) else none

/-- The rejection of an opcode that has a row but whose operand bytes set a reserved bit (R83). -/
def orReserved (opc : Byte) : Option Instr → Except DecodeError Instr
  | some i => .ok i
  | none => .error (.reservedBitSet opc)

/-- The operand bytes read by opcode (R85): `none` where the opcode has no row, `some none` where it has one and a
reserved bit is set. -/
def readRow (opc a b c : Byte) : Option (Option Instr) :=
  match opc with
  | 0x01#8 => some (readF0 .minit a b c)
  | 0x02#8 => some (readF0 .sinit a b c)
  | 0x03#8 => some (readF0 .pecen a b c)
  | 0x04#8 => some (readF0 .pecdis a b c)
  | 0x05#8 => some (readF0 .arpen a b c)
  | 0x06#8 => some (readF0 .arpdis a b c)
  | 0x07#8 => some (readF0 .statget a b c)
  | 0x08#8 => some (readF0 .rxcnt a b c)
  | 0x09#8 => some (readF0 .minten a b c)
  | 0x0A#8 => some (readF0 .sinten a b c)
  | 0x10#8 => some (readFTbit .mquick a b c)
  | 0x11#8 => some (readFTB .msendb a b c)
  | 0x12#8 => some (readFT .mrecvb a b c)
  | 0x13#8 => some (readFTBC .mwrite a b c)
  | 0x14#8 => some (readFTBC .mread a b c)
  | 0x15#8 => some (readFTBC .mblkwr a b c)
  | 0x16#8 => some (readFTB .mblkrd a b c)
  | 0x17#8 => some (readFTB .mpcall a b c)
  | 0x18#8 => some (readFTBC .mbpcall a b c)
  | 0x19#8 => some (readFA .mnotify a b c)
  | 0x1A#8 => some (readFTC .mi2cwr a b c)
  | 0x1B#8 => some (readFTC .mi2crd a b c)
  | 0x1C#8 => some (readFTNN .mi2cwrrd a b c)
  | 0x1F#8 => some (readF0 .mintp a b c)
  | 0x20#8 => some (readF0 .arpgug a b c)
  | 0x21#8 => some (readFT .arpgud a b c)
  | 0x22#8 => some (readF0 .arprstg a b c)
  | 0x23#8 => some (readFT .arprstd a b c)
  | 0x24#8 => some (readFA .arpassign a b c)
  | 0x25#8 => some (readFA .arpnotify a b c)
  | 0x26#8 => some (readF0 .arpprep a b c)
  | 0x27#8 => some (readFA .udidenc a b c)
  | 0x28#8 => some (readF0 .udiddec a b c)
  | 0x30#8 => some (readFTbit .saddrset a b c)
  | 0x31#8 => some (readFC .stxset a b c)
  | 0x32#8 => some (readFC .srxset a b c)
  | 0x33#8 => some (readF0 .scmdget a b c)
  | 0x34#8 => some (readF0 .spcen a b c)
  | 0x35#8 => some (readF0 .spcdis a b c)
  | 0x36#8 => some (readF0 .sblken a b c)
  | 0x37#8 => some (readF0 .sblkdis a b c)
  | 0x38#8 => some (readF0 .si2cen a b c)
  | 0x39#8 => some (readF0 .si2cdis a b c)
  | 0x3A#8 => some (readF0 .sarget a b c)
  | 0x3B#8 => some (readFAbit .sarset a b c)
  | 0x3C#8 => some (readF0 .savget a b c)
  | 0x3D#8 => some (readFAbit .savset a b c)
  | 0x3E#8 => some (readF0 .sudidset a b c)
  | 0x40#8 => some (readF0 .smacken a b c)
  | 0x41#8 => some (readF0 .smackdis a b c)
  | 0x42#8 => some (readF0 .smackget a b c)
  | 0x43#8 => some (readFAbit .sacksend a b c)
  | 0x44#8 => some (readF0 .sdsend a b c)
  | 0x45#8 => some (readF0 .sxferinit a b c)
  | 0x46#8 => some (readF0 .saddrget a b c)
  | 0x4F#8 => some (readF0 .sintp a b c)
  | _ => none

/-- The decoder: total on every word, rejecting by name (R84). -/
def decode (w : Word) : Except DecodeError Instr :=
  match readRow (opcOf w) (opaOf w) (opbOf w) (opcByteOf w) with
  | some r => orReserved (opcOf w) r
  | none => .error (.illegalOpcode (opcOf w))

/-- The instruction the decoder reads from an instruction whose bits are `w`, bit 0 the least significant bit of the
command word; bits above `nbits` are 0. A command is one 32-bit word (R80), so a set bit above bit 31 is no command. -/
def decodeTableWord (nbits w : Nat) : Option Instr :=
  if w % 2 ^ nbits < 2 ^ 32 then
    match decode (BitVec.ofNat 32 (w % 2 ^ nbits)) with
    | .ok i => some i
    | .error _ => none
  else none

/-- The operand byte of an address (R81): `A[7]` is 0. -/
def addrField (t : BusAddr) : Byte := t.setWidth 8

/-- The operand byte of a one-bit operand (R81): bits 7:1 are 0. -/
def bitField (b : Bool) : Byte := if b then 1#8 else 0#8

/-- The encoder: the command word of an instruction (R80, R81, R85). -/
def encode : Instr → Word
  | .minit => commandWord 0x01#8 0#8 0#8 0#8
  | .sinit => commandWord 0x02#8 0#8 0#8 0#8
  | .pecen => commandWord 0x03#8 0#8 0#8 0#8
  | .pecdis => commandWord 0x04#8 0#8 0#8 0#8
  | .arpen => commandWord 0x05#8 0#8 0#8 0#8
  | .arpdis => commandWord 0x06#8 0#8 0#8 0#8
  | .statget => commandWord 0x07#8 0#8 0#8 0#8
  | .rxcnt => commandWord 0x08#8 0#8 0#8 0#8
  | .minten => commandWord 0x09#8 0#8 0#8 0#8
  | .sinten => commandWord 0x0A#8 0#8 0#8 0#8
  | .mquick t b => commandWord 0x10#8 (addrField t) (bitField b) 0#8
  | .msendb t x => commandWord 0x11#8 (addrField t) x 0#8
  | .mrecvb t => commandWord 0x12#8 (addrField t) 0#8 0#8
  | .mwrite t cmd n => commandWord 0x13#8 (addrField t) cmd n
  | .mread t cmd n => commandWord 0x14#8 (addrField t) cmd n
  | .mblkwr t cmd n => commandWord 0x15#8 (addrField t) cmd n
  | .mblkrd t cmd => commandWord 0x16#8 (addrField t) cmd 0#8
  | .mpcall t cmd => commandWord 0x17#8 (addrField t) cmd 0#8
  | .mbpcall t cmd n => commandWord 0x18#8 (addrField t) cmd n
  | .mnotify cmd => commandWord 0x19#8 cmd 0#8 0#8
  | .mi2cwr t n => commandWord 0x1A#8 (addrField t) 0#8 n
  | .mi2crd t n => commandWord 0x1B#8 (addrField t) 0#8 n
  | .mi2cwrrd t m n => commandWord 0x1C#8 (addrField t) m n
  | .mintp => commandWord 0x1F#8 0#8 0#8 0#8
  | .arpgug => commandWord 0x20#8 0#8 0#8 0#8
  | .arpgud t => commandWord 0x21#8 (addrField t) 0#8 0#8
  | .arprstg => commandWord 0x22#8 0#8 0#8 0#8
  | .arprstd t => commandWord 0x23#8 (addrField t) 0#8 0#8
  | .arpassign x => commandWord 0x24#8 x 0#8 0#8
  | .arpnotify cmd => commandWord 0x25#8 cmd 0#8 0#8
  | .arpprep => commandWord 0x26#8 0#8 0#8 0#8
  | .udidenc x => commandWord 0x27#8 x 0#8 0#8
  | .udiddec => commandWord 0x28#8 0#8 0#8 0#8
  | .saddrset t b => commandWord 0x30#8 (addrField t) (bitField b) 0#8
  | .stxset n => commandWord 0x31#8 0#8 0#8 n
  | .srxset n => commandWord 0x32#8 0#8 0#8 n
  | .scmdget => commandWord 0x33#8 0#8 0#8 0#8
  | .spcen => commandWord 0x34#8 0#8 0#8 0#8
  | .spcdis => commandWord 0x35#8 0#8 0#8 0#8
  | .sblken => commandWord 0x36#8 0#8 0#8 0#8
  | .sblkdis => commandWord 0x37#8 0#8 0#8 0#8
  | .si2cen => commandWord 0x38#8 0#8 0#8 0#8
  | .si2cdis => commandWord 0x39#8 0#8 0#8 0#8
  | .sarget => commandWord 0x3A#8 0#8 0#8 0#8
  | .sarset b => commandWord 0x3B#8 (bitField b) 0#8 0#8
  | .savget => commandWord 0x3C#8 0#8 0#8 0#8
  | .savset b => commandWord 0x3D#8 (bitField b) 0#8 0#8
  | .sudidset => commandWord 0x3E#8 0#8 0#8 0#8
  | .smacken => commandWord 0x40#8 0#8 0#8 0#8
  | .smackdis => commandWord 0x41#8 0#8 0#8 0#8
  | .smackget => commandWord 0x42#8 0#8 0#8 0#8
  | .sacksend b => commandWord 0x43#8 (bitField b) 0#8 0#8
  | .sdsend => commandWord 0x44#8 0#8 0#8 0#8
  | .sxferinit => commandWord 0x45#8 0#8 0#8 0#8
  | .saddrget => commandWord 0x46#8 0#8 0#8 0#8
  | .sintp => commandWord 0x4F#8 0#8 0#8 0#8

end Sys2Proof
end

