-- ==== Sys2Proof/Machine/Window.lean ====
section
/-! DEFINITION. The register window (R63, R67, R70), the command port (R80, R84) and the steps of the host (R14a). -/

namespace Sys2Proof.Machine

/-- `RESULT`: `[4:0]` status, `[15:8]` data, `[31]` err (R63). -/
def Result.word (r : Result) : Word :=
  (if r.err then 0x80000000#32 else 0#32) ||| r.data.setWidth 32 <<< 8 ||| r.status.code.setWidth 32

/-- `SADDR`: `[6:0]` saddr0, `[14:8]` saddr1 (R63). -/
def saddrWord (s : State) : Word := s.saddr1.setWidth 32 <<< 8 ||| s.saddr0.setWidth 32

/-- `CTRL`: `[0]` inited, `[1]` udid_bound (R63). -/
def ctrlWord (s : State) : Word :=
  (if s.inited then 1#32 else 0#32) ||| (if s.udidBound then 2#32 else 0#32)

/-- What a read of the 32-bit register at an offset returns (R63): unused high bits, `CMD` and the reserved offsets read 0. -/
def readReg (s : State) (offset : Nat) : Word :=
  match offset with
  | 0x04 => s.result.word
  | 0x08 => s.flags.word.setWidth 32
  | 0x0C => s.masterCursor.code.setWidth 32
  | 0x10 => s.slaveCursor.code.setWidth 32
  | 0x14 => s.txSize.setWidth 32
  | 0x18 => s.txIndex.setWidth 32
  | 0x1C => s.rxSize.setWidth 32
  | 0x20 => s.rxIndex.setWidth 32
  | 0x24 => s.ownAddress.setWidth 32
  | 0x28 => s.targetAddress.setWidth 32
  | 0x2C => s.currentCommand.setWidth 32
  | 0x30 => s.computedCrc.setWidth 32
  | 0x34 => s.receivedCrc.setWidth 32
  | 0x38 => saddrWord s
  | 0x3C => ctrlWord s
  | 0x40 => s.udid.cap.setWidth 32
  | 0x44 => s.udid.ver.setWidth 32
  | 0x48 => s.udid.vendor.setWidth 32
  | 0x4C => s.udid.device.setWidth 32
  | 0x50 => s.udid.iface.setWidth 32
  | 0x54 => s.udid.subvendor.setWidth 32
  | 0x58 => s.udid.subdevice.setWidth 32
  | 0x5C => s.udid.vspec
  | _ => 0#32

/-- What a write of the 32-bit register at an offset other than `CMD` does (R33, R63): a UDID register takes the low bits
of the value (log entry 12), a write to any other offset is ignored. -/
def writeReg (s : State) (offset : Nat) (v : Word) : State :=
  match offset with
  | 0x40 => { s with udid := { s.udid with cap := v.setWidth 8 }, udidWritten := { s.udidWritten with cap := true } }
  | 0x44 => { s with udid := { s.udid with ver := v.setWidth 8 }, udidWritten := { s.udidWritten with ver := true } }
  | 0x48 =>
    { s with udid := { s.udid with vendor := v.setWidth 16 }, udidWritten := { s.udidWritten with vendor := true } }
  | 0x4C =>
    { s with udid := { s.udid with device := v.setWidth 16 }, udidWritten := { s.udidWritten with device := true } }
  | 0x50 =>
    { s with udid := { s.udid with iface := v.setWidth 16 }, udidWritten := { s.udidWritten with iface := true } }
  | 0x54 =>
    { s with udid := { s.udid with subvendor := v.setWidth 16 },
             udidWritten := { s.udidWritten with subvendor := true } }
  | 0x58 =>
    { s with udid := { s.udid with subdevice := v.setWidth 16 },
             udidWritten := { s.udidWritten with subdevice := true } }
  | 0x5C => { s with udid := { s.udid with vspec := v }, udidWritten := { s.udidWritten with vspec := true } }
  | _ => s

/-- A bus access that returns nothing to the host. -/
def answered (s : State) : Out := .next { s with reply := .none }

/-- A bus access that returns a word to the host. -/
def answeredWith (s : State) (v : Word) : Out := .next { s with reply := .data v }

/-- The block refuses the access: no state change but the model's own note of it (R67; log entry 9). -/
def refusedAccess (s : State) : Out := .next { s with reply := .refused }

/-- A write of `CMD` executes the word (R63, R80): an illegal word is CmdErr (R84), a command runs with the inputs the
transport shows it (R100). -/
def commandPort (run : Instr → State → Out) (w : Word) (inputs : Inputs) (s : State) : Out :=
  match decode w with
  | .ok i => run i { s with inputs := inputs, reply := .none }
  | .error _ => raiseCmdErr { s with inputs := inputs, reply := .none }

/-- A 32-bit access to the register at an aligned offset below 0x100 (R63). -/
def regAccess (run : Instr → State → Out) (offset : Nat) (op : BusOp) (inputs : Inputs) (s : State) : Out :=
  match op with
  | .read => answeredWith s (readReg s offset)
  | .write v => if offset = 0 then commandPort run v inputs s else answered (writeReg s offset v)

/-- A byte access to `TXBUF[i]` through the window (R63): readable and writable. -/
def txWindow (i : Nat) (op : BusOp) (s : State) : Out :=
  match op with
  | .read => withTxByte s i fun b => answeredWith s (b.setWidth 32)
  | .write v => answered { s with txbuf := s.txbuf.write i (v.setWidth 8) }

/-- A byte access to `RXBUF[i]` through the window (R63): readable; a host write is ignored. -/
def rxWindow (i : Nat) (op : BusOp) (s : State) : Out :=
  match op with
  | .read =>
    match s.rxbuf.read i with
    | some b => answeredWith s (b.setWidth 32)
    | none => .fault (.unwrittenRxByte i)
  | .write _ => answered s

/-- A bus access (R63, R67, R70): 32-bit accesses at multiples of 4 below 0x100, byte accesses to the buffer windows, any
other width or alignment refused; the block has no address beyond 0x2FF (log entry 10). -/
def busAccess (run : Instr → State → Out) (width : Width) (offset : Nat) (op : BusOp) (inputs : Inputs)
    (s : State) : Out :=
  if offset < 0x100 then
    if width = .word ∧ offset % 4 = 0 then regAccess run offset op inputs s else refusedAccess s
  else if offset < 0x300 then
    if width = .byte then
      if offset < 0x200 then txWindow (offset - 0x100) op s else rxWindow (offset - 0x200) op s
    else refusedAccess s
  else .fault (.outsideWindow offset)

/-- Hardware reset as an event (R350a): the state of `State.reset`; the output trace, the rest of the host's schedule,
the ARP parameters and the count of free values are no state of the block and stay (log entry 13). -/
def hardwareReset (s : State) : Out :=
  .next { State.reset with trace := s.trace, schedule := s.schedule, arpParams := s.arpParams,
                            freeDraws := s.freeDraws }

/-- One step of the host (R14a). -/
def hostStep (run : Instr → State → Out) (h : HostStep) (s : State) : Out :=
  match h with
  | .access width offset op inputs => busAccess run width offset op inputs s
  | .hardwareReset => hardwareReset s

/-- The next step of the schedule is taken; with none left the block waits for the host (R352; log entry 7). -/
def hostTurn (run : Instr → State → Out) (s : State) : Out :=
  match s.schedule with
  | [] => .next s
  | h :: rest => hostStep run h { s with schedule := rest }

/-- The bus access that writes a command word whose low `nbits` bits are `w`'s to `CMD` (R63, R80). -/
def commandWrite (nbits w : Nat) (inputs : Inputs) : HostStep :=
  .access .word 0 (.write (BitVec.ofNat 32 (w % 2 ^ nbits))) inputs

end Sys2Proof.Machine
end

