-- ==== Sys2Proof/Machine/Step.lean ====
section
/-! DEFINITION. One step of the machine: the next step of the host, a command word being decoded and executed at once
(R75, R80). -/

namespace Sys2Proof.Machine

/-- One step (R72): the next host step is taken whole; with none left the block waits (R352). -/
def step (s : State) : Host.Outcome State Fault Refusal := hostTurn exec s

/-- The state whose very next step writes the command word whose low `nbits` bits are `w`'s to `CMD`. A command is fetched
from no memory (R75): the host's schedule is the only place a command comes from, and the inputs stay as they are. -/
def State.withFetchWord (s : State) (nbits w : Nat) : State :=
  { s with schedule := commandWrite nbits w s.inputs :: s.schedule }

end Sys2Proof.Machine
end

