-- ==== Sys2Proof/Safety.lean ====
section
/-! DEFINITION. What counts as a good state and as a safe run, in the terms the statements use. -/

namespace Sys2Proof.Machine

/-- The cursor values that have a master handler (R215): the default branch is for the others (R218). -/
def Cursor.masterHandled (c : Cursor) : Bool :=
  match c with
  | .idle | .writeBlockSize | .writeNext | .writeFinal | .readOne | .readFirst | .readBlockSize | .readNext
  | .readFinal | .readWait | .readErrorStop => true
  | .slavePostCommand | .writeDone | .readPec | .readDone | .unused => false

/-- The eight cursor values of the slave engine (R27, column "used by slave engine"). -/
def Cursor.slaveOwn (c : Cursor) : Bool :=
  match c with
  | .idle | .slavePostCommand | .writeNext | .writeFinal | .writeDone | .readNext | .readPec | .readDone => true
  | .writeBlockSize | .readOne | .readFirst | .readBlockSize | .readFinal | .readWait | .readErrorStop
  | .unused => false

/-- What every step keeps: both buffer spaces in canonical form (R60), `tx_index <= tx_size` (R21), the master cursor at a
value with a handler (R218), the slave cursor at a value of the slave list or at the turn-around value (R37). -/
structure State.Good (s : State) : Prop where
  txbuf_wf : s.txbuf.wf
  rxbuf_wf : s.rxbuf.wf
  tx_index_le : s.txIndex ≤ s.txSize
  master_handled : s.masterCursor.masterHandled = true
  slave_own : s.slaveCursor.slaveOwn = true ∨ s.slaveCursor = turnaroundCursor

/-- An outcome that stops: a fault or a refusal. A safe run has none. -/
def stops (o : Host.Outcome State Fault Refusal) : Bool :=
  match o with
  | .next _ => false
  | .fault _ => true
  | .refused _ => true

/-- No timeout, arbitration or NACK input: MINTP runs the handler of the master cursor (R215). -/
def Inputs.noMasterError (x : Inputs) : Bool :=
  !x.intTimeout && !x.errArb && !x.errAddrNack && !x.errDataNack

/-- The commands that start a master transaction: the thirteen of R178 and the seven helpers built on them (R305 to R311). -/
def startsMaster (i : Instr) : Bool :=
  match i with
  | .mquick _ _ | .msendb _ _ | .mrecvb _ | .mwrite _ _ _ | .mread _ _ _ | .mblkwr _ _ _ | .mblkrd _ _ | .mpcall _ _
  | .mbpcall _ _ _ | .mnotify _ | .mi2cwr _ _ | .mi2crd _ _ | .mi2cwrrd _ _ _ => true
  | .arpgug | .arpgud _ | .arprstg | .arprstd _ | .arpassign _ | .arpnotify _ | .arpprep => true
  | .minit | .sinit | .pecen | .pecdis | .arpen | .arpdis | .statget | .rxcnt | .minten | .sinten | .mintp => false
  | .udidenc _ | .udiddec => false
  | .saddrset _ _ | .stxset _ | .srxset _ | .scmdget | .spcen | .spcdis | .sblken | .sblkdis | .si2cen | .si2cdis
  | .sarget | .sarset _ | .savget | .savset _ | .sudidset | .smacken | .smackdis | .smackget | .sacksend _ | .sdsend
  | .sxferinit | .saddrget | .sintp => false

/-- The slave cursor after a byte was put, by the number of wire bytes still to send (R259). -/
def cursorForRemaining (remaining : Nat) : Cursor :=
  if 2 ≤ remaining then .writeNext else if remaining = 1 then .writeFinal else .writeDone

/-- MINTP commands in a row, one for each element of the list, which is what that command samples, stopping at the first
fault. -/
def afterMintps : List Inputs → State → Out
  | [], s => .next s
  | x :: rest, s =>
    match exec .mintp { s with inputs := x } with
    | .next t => afterMintps rest t
    | .fault f => .fault f
    | .refused r => .refused r

/-- The bytes the block hands to the transport to send as a master, in order: the arguments of the `M_PUT` actions (R98). -/
def putBytes : List Action → List Byte
  | [] => []
  | .mPut b :: rest => b :: putBytes rest
  | _ :: rest => putBytes rest

end Sys2Proof.Machine
end

