-- ==== Sys2Proof/Certificates/Slice0/Obligations.lean ====
section
/-! DEFINITION. The statements for the provers. A next state is written as the whole record that results, so that every
field a statement does not name is unchanged. A buffer write is stated through `Memory.read`, for every index. -/

open Sys2Proof Sys2Proof.Machine

/-! ## The command word (30_encoding.md) -/

/-- R80 to R82, R85: the word an instruction encodes to decodes to that instruction, every operand at every value. -/
def Obligations.DecodeInvertsEncode : Prop := ∀ i : Instr, decode (encode i) = .ok i

/-- R81, R83: a word that decodes is the one word of its instruction, so no bit of it is ignored. -/
def Obligations.EncodeInvertsDecode : Prop := ∀ (w : Word) (i : Instr), decode w = .ok i → encode i = w

/-- R85: a word is a command exactly when `w & mask` is the match of a row, and no word selects two rows. -/
def Obligations.DecodableWordsAreTheRowsWords : Prop :=
  (∀ w : Word, (∃ i, decode w = .ok i) ↔ ∃ r ∈ opcodeRows, w &&& r.format.mask = r.matchWord) ∧
  (∀ (w : Word) (r r' : OpcodeRow), r ∈ opcodeRows → r' ∈ opcodeRows → w &&& r.format.mask = r.matchWord →
    w &&& r'.format.mask = r'.matchWord → r = r')

/-- Words the spec writes out, one or more of every family (41_config.md to 45_arp.md, the examples). -/
def Obligations.SpecWordsDecode : Prop :=
  decode 0x00000003#32 = .ok .pecen ∧
  decode 0x00015010#32 = .ok (.mquick 0x50#7 true) ∧
  decode 0x02065A13#32 = .ok (.mwrite 0x5A#7 0x06#8 2#8) ∧
  decode 0x0102501C#32 = .ok (.mi2cwrrd 0x50#7 2#8 1#8) ∧
  decode 0x0000001F#32 = .ok .mintp ∧
  decode 0x00006227#32 = .ok (.udidenc 0x62#8) ∧
  decode 0x00003121#32 = .ok (.arpgud 0x31#7) ∧
  decode 0x00012C30#32 = .ok (.saddrset 0x2C#7 true) ∧
  decode 0x20000032#32 = .ok (.srxset 32#8) ∧
  decode 0x0000013B#32 = .ok (.sarset true) ∧
  decode 0x0000004F#32 = .ok .sintp

/-- R80, R75: a write of a command word to `CMD` executes the command it decodes to, with the inputs of that host step. -/
def Obligations.StepRunsTheDecodedCommand : Prop :=
  ∀ (s : State) (w : Word) (i : Instr) (inp : Inputs) (rest : List HostStep),
    s.schedule = .access .word 0 (.write w) inp :: rest → decode w = .ok i →
    step s = exec i { s with schedule := rest, inputs := inp, reply := .none }

/-- R83, R84: a word no row selects, and any word but the inits' while `inited` is 0, is CmdErr: nothing changes but
`result` (and the model's own record of the host step). -/
def Obligations.IllegalWordIsCmdErr : Prop :=
  ∀ (s : State) (w : Word) (inp : Inputs) (rest : List HostStep),
    s.schedule = .access .word 0 (.write w) inp :: rest →
    ((∀ r ∈ opcodeRows, w &&& r.format.mask ≠ r.matchWord) ∨
      (s.inited = false ∧ w.extractLsb' 0 8 ≠ 0x01#8 ∧ w.extractLsb' 0 8 ≠ 0x02#8)) →
    step s = .next { s with
      schedule := rest, inputs := inp, reply := .none,
                            result := { err := true, status := .ok, data := 0#8 } }

/-- R34: `inited` is 0 after hardware reset, set by MINIT and SINIT, cleared by no step but a hardware reset, and while it
is 0 every other command is rejected with CmdErr. -/
def Obligations.OnlyInitsRunBeforeInit : Prop :=
  State.reset.inited = false ∧
  (∀ s : State, (∃ t, exec .minit s = .next t ∧ t.inited = true) ∧ (∃ t, exec .sinit s = .next t ∧ t.inited = true)) ∧
  (∀ (s : State) (rest : List HostStep), s.schedule = .hardwareReset :: rest → ∃ t, step s = .next t ∧ t.inited = false) ∧
  (∀ s t : State, step s = .next t → s.inited = true → t.inited = false → ∃ rest, s.schedule = .hardwareReset :: rest) ∧
  (∀ (i : Instr) (s t : State), exec i s = .next t → s.inited = true → t.inited = true) ∧
  (∀ (i : Instr) (s t : State), exec i s = .next t → s.inited = false → t.inited = true → i = .minit ∨ i = .sinit) ∧
  (∀ (i : Instr) (s : State), s.inited = false → i ≠ .minit → i ≠ .sinit →
    exec i s = .next { s with result := { err := true, status := .ok, data := 0#8 } })

/-! ## Reset and invariants (10_state.md, 70_reset_and_hazards.md) -/

/-- R40, R350, R352: what reset leaves (the values the spec gives), and that the block does nothing by itself. That
the trace, the schedule and the ARP parameters survive the reset event is the model's choice (log entry 13). -/
def Obligations.ResetIsQuiet : Prop :=
  State.reset.inited = false ∧ State.reset.result = { err := false, status := .ok, data := 0#8 } ∧
  State.reset.trace = [] ∧
  (∀ s : State, s.schedule = [] → step s = .next s) ∧
  (∀ (s : State) (rest : List HostStep), s.schedule = .hardwareReset :: rest →
    ∃ t, step s = .next t ∧ t.inited = false ∧ t.result = { err := false, status := .ok, data := 0#8 } ∧
      t.trace = s.trace ∧ t.schedule = rest ∧ t.arpParams = s.arpParams)

/-- The state after reset is good (`State.Good`); it rests on the reset values the model chose (log entry 1). -/
def Obligations.ResetIsGood : Prop := State.reset.Good

/-- Every step keeps `State.Good`: canonical buffers, `tx_index <= tx_size` (R21), legal cursors (R37, R218). A hardware
reset step keeps it only by the zeros the model chose for the sizes, the indices and the cursors, which R40 leaves
unspecified (DESIGN CHOICE, log entries 1 and 13, unsafe). -/
def Obligations.StepKeepsGood : Prop := ∀ s t : State, s.Good → step s = .next t → t.Good

/-! ## The register window (20_memory.md) -/

/-- R63, R94: the four registers that pack several fields, field by field, unused bits 0, each status at its number of
R94; reading changes nothing. -/
def Obligations.PackedRegistersRead : Prop :=
  ∀ (numbers : List (Status × Nat)) (s : State) (rest : List HostStep) (inp : Inputs),
    numbers = [(.ok, 0), (.timeout, 1), (.peripheralBusy, 2), (.busBusy, 3), (.arbitrationLost, 4),
      (.addressAckError, 5), (.dataAckError, 6), (.pecError, 7), (.dataSizeError, 8), (.masterError, 9),
      (.slaveError, 10), (.quickCommandZero, 11), (.quickCommandOne, 12), (.firstByte, 13),
      (.primaryAddressMatched, 14), (.secondaryAddressMatched, 15), (.transferInProgress, 16),
      (.transferComplete, 17), (.slaveNotReady, 18)] →
    (∀ st : Status, ∃ n, (st, n) ∈ numbers) ∧
    (∀ status : Nat, (s.result.status, status) ∈ numbers → s.schedule = .access .word 0x04 .read inp :: rest →
      ∃ v : Word, step s = .next { s with schedule := rest, reply := .data v } ∧
        v.toNat = status + 2 ^ 8 * s.result.data.toNat + 2 ^ 31 * s.result.err.toNat) ∧
    (s.schedule = .access .word 0x08 .read inp :: rest →
      ∃ v : Word, step s = .next { s with schedule := rest, reply := .data v } ∧
        v.toNat = s.flags.pec.toNat + 2 * s.flags.pc.toNat + 4 * s.flags.blk.toNat + 8 * s.flags.tip.toNat +
          16 * s.flags.raw.toNat + 32 * s.flags.ar.toNat + 64 * s.flags.av.toNat + 128 * s.flags.arp.toNat) ∧
    (s.schedule = .access .word 0x38 .read inp :: rest →
      ∃ v : Word, step s = .next { s with schedule := rest, reply := .data v } ∧
        v.toNat = s.saddr0.toNat + 2 ^ 8 * s.saddr1.toNat) ∧
    (s.schedule = .access .word 0x3C .read inp :: rest →
      ∃ v : Word, step s = .next { s with schedule := rest, reply := .data v } ∧
        v.toNat = s.inited.toNat + 2 * s.udidBound.toNat)

/-- R27, R63, R70: every register that holds one field reads that field in its low bits, each cursor at its number of
R27; `CMD` and the reserved offsets read 0; reading changes nothing. Every 4-bit code is the number of one cursor value, so
the turn-around value of R8 may be any. That a UDID register nothing has written reads the value it holds is the model's
choice (DESIGN CHOICE, log entry 3, unsafe for that read). -/
def Obligations.OneFieldRegistersRead : Prop :=
  ∀ (numbers : List (Cursor × Nat)) (s : State) (rest : List HostStep) (inp : Inputs) (offset n master slave : Nat),
    numbers = [(.idle, 0), (.slavePostCommand, 1), (.writeBlockSize, 2), (.writeNext, 3), (.writeFinal, 4),
      (.writeDone, 5), (.readOne, 6), (.readFirst, 7), (.readBlockSize, 8), (.readNext, 9), (.readFinal, 10),
      (.readWait, 11), (.readPec, 12), (.readDone, 13), (.readErrorStop, 14), (.unused, 15)] →
    (∀ c : Cursor, ∃ k, (c, k) ∈ numbers) ∧
    (∀ code : BitVec 4, (Cursor.ofCode code, code.toNat) ∈ numbers ∧ (Cursor.ofCode code).code = code) ∧
    ((s.masterCursor, master) ∈ numbers → (s.slaveCursor, slave) ∈ numbers →
      s.schedule = .access .word offset .read inp :: rest →
      (offset, n) ∈ [(0x00, 0), (0x0C, master), (0x10, slave),
          (0x14, s.txSize.toNat), (0x18, s.txIndex.toNat), (0x1C, s.rxSize.toNat), (0x20, s.rxIndex.toNat),
          (0x24, s.ownAddress.toNat), (0x28, s.targetAddress.toNat), (0x2C, s.currentCommand.toNat),
          (0x30, s.computedCrc.toNat), (0x34, s.receivedCrc.toNat), (0x40, s.udid.cap.toNat),
          (0x44, s.udid.ver.toNat), (0x48, s.udid.vendor.toNat), (0x4C, s.udid.device.toNat),
          (0x50, s.udid.iface.toNat), (0x54, s.udid.subvendor.toNat), (0x58, s.udid.subdevice.toNat),
          (0x5C, s.udid.vspec.toNat)] ∨ (n = 0 ∧ offset % 4 = 0 ∧ 0x60 ≤ offset ∧ offset < 0x100) →
      ∃ v : Word, step s = .next { s with schedule := rest, reply := .data v } ∧ v.toNat = n)

/-- R33, R63, R70: a write to a read-only or reserved register is ignored; a write to a UDID register stores its low
bits in that register alone (and marks it written, log entry 3; the low bits are log entry 12). -/
def Obligations.RegisterWrites : Prop :=
  ∀ (s : State) (rest : List HostStep) (inp : Inputs) (offset : Nat) (v : Word),
    s.schedule = .access .word offset (.write v) inp :: rest →
    (offset % 4 = 0 → 0 < offset → offset < 0x100 → offset < 0x40 ∨ 0x60 ≤ offset →
      step s = .next { s with schedule := rest, reply := .none }) ∧
    (offset = 0x40 → step s = .next { s with
      schedule := rest, reply := .none,
      udid := { s.udid with cap := v.setWidth 8 }, udidWritten := { s.udidWritten with cap := true } }) ∧
    (offset = 0x44 → step s = .next { s with
      schedule := rest, reply := .none,
      udid := { s.udid with ver := v.setWidth 8 }, udidWritten := { s.udidWritten with ver := true } }) ∧
    (offset = 0x48 → step s = .next { s with
      schedule := rest, reply := .none,
      udid := { s.udid with vendor := v.setWidth 16 }, udidWritten := { s.udidWritten with vendor := true } }) ∧
    (offset = 0x4C → step s = .next { s with
      schedule := rest, reply := .none,
      udid := { s.udid with device := v.setWidth 16 }, udidWritten := { s.udidWritten with device := true } }) ∧
    (offset = 0x50 → step s = .next { s with
      schedule := rest, reply := .none,
      udid := { s.udid with iface := v.setWidth 16 }, udidWritten := { s.udidWritten with iface := true } }) ∧
    (offset = 0x54 → step s = .next { s with
      schedule := rest, reply := .none,
      udid := { s.udid with subvendor := v.setWidth 16 }, udidWritten := { s.udidWritten with subvendor := true } }) ∧
    (offset = 0x58 → step s = .next { s with
      schedule := rest, reply := .none,
      udid := { s.udid with subdevice := v.setWidth 16 }, udidWritten := { s.udidWritten with subdevice := true } }) ∧
    (offset = 0x5C → step s = .next { s with
      schedule := rest, reply := .none,
      udid := { s.udid with vspec := v }, udidWritten := { s.udidWritten with vspec := true } })

/-- R67: below 0x100 any width but 32 bits and any offset that is no multiple of 4, and in the buffer windows any width
but a byte, is refused: no state change (but the model's own record of the host step). The widths a host access can have are
the model's choice (log entry 23). -/
def Obligations.OtherAccessesAreRefused : Prop :=
  ∀ (s : State) (rest : List HostStep) (inp : Inputs) (width : Width) (offset : Nat) (op : BusOp),
    s.schedule = .access width offset op inp :: rest →
    (offset < 0x100 ∧ (width ≠ .word ∨ offset % 4 ≠ 0)) ∨ (0x100 ≤ offset ∧ offset < 0x300 ∧ width ≠ .byte) →
    step s = .next { s with schedule := rest, reply := .refused }

/-- R63, R69: the byte windows of TXBUF and RXBUF. TXBUF is written and read, a host write to RXBUF is ignored; a
byte nothing has written has no value and its read stops the run (log entry 2). That a TXBUF write stores the low eight bits
of the value, whatever the others, is the model's reading (DEDUCED, log entry 12, unsafe for a value with high bits set). -/
def Obligations.BufferWindows : Prop :=
  ∀ (s : State) (rest : List HostStep) (inp : Inputs) (i : Nat), i < 256 →
    (∀ v : Word, s.schedule = .access .byte (0x100 + i) (.write v) inp :: rest →
      ∃ m : Memory, step s = .next { s with schedule := rest, reply := .none, txbuf := m } ∧
        ∀ a, m.read a = if a = i then some (v.setWidth 8) else s.txbuf.read a) ∧
    (∀ b : Byte, s.schedule = .access .byte (0x100 + i) .read inp :: rest → s.txbuf.read i = some b →
      step s = .next { s with schedule := rest, reply := .data (b.setWidth 32) }) ∧
    (s.schedule = .access .byte (0x100 + i) .read inp :: rest → s.txbuf.read i = none →
      step s = .fault (.unwrittenTxByte i)) ∧
    (∀ v : Word, s.schedule = .access .byte (0x200 + i) (.write v) inp :: rest →
      step s = .next { s with schedule := rest, reply := .none }) ∧
    (∀ b : Byte, s.schedule = .access .byte (0x200 + i) .read inp :: rest → s.rxbuf.read i = some b →
      step s = .next { s with schedule := rest, reply := .data (b.setWidth 32) }) ∧
    (s.schedule = .access .byte (0x200 + i) .read inp :: rest → s.rxbuf.read i = none →
      step s = .fault (.unwrittenRxByte i))

/-! ## Configuration, setters, getters (41_config.md, 44_slave.md section 4) -/

/-- R121, R122: MINIT and SINIT zero every field but the UDID bank and the buffers, and set `inited`; SINIT also emits
`S_ENABLE`. They hold in every state, initialised or not. -/
def Obligations.InitsZeroTheFields : Prop :=
  encode .minit = 0x00000001#32 ∧ encode .sinit = 0x00000002#32 ∧
  ∀ s : State,
    exec .minit s = .next { s with
      txSize := 0#8, txIndex := 0#8, rxSize := 0#8, rxIndex := 0#8, ownAddress := 0#7, targetAddress := 0#7,
      currentCommand := 0#8, computedCrc := 0#8, receivedCrc := 0#8, masterCursor := .idle, slaveCursor := .idle,
      flags := { pec := false, pc := false, blk := false, tip := false, raw := false, ar := false, av := false,
                 arp := false },
      saddr0 := 0#7, saddr1 := 0#7, udidBound := false, inited := true,
      result := { err := false, status := .ok, data := 0#8 } } ∧
    exec .sinit s = .next { s with
      txSize := 0#8, txIndex := 0#8, rxSize := 0#8, rxIndex := 0#8, ownAddress := 0#7, targetAddress := 0#7,
      currentCommand := 0#8, computedCrc := 0#8, receivedCrc := 0#8, masterCursor := .idle, slaveCursor := .idle,
      flags := { pec := false, pc := false, blk := false, tip := false, raw := false, ar := false, av := false,
                 arp := false },
      saddr0 := 0#7, saddr1 := 0#7, udidBound := false, inited := true, trace := s.trace ++ [.sEnable],
      result := { err := false, status := .ok, data := 0#8 } }

/-- R123 to R126, R287 to R292, R294, R296, R297: each setter has its word, and writes its one flag (or `udid_bound`) and
`result`, whatever TIP is. -/
def Obligations.SettersWriteOneFlag : Prop :=
  [encode .pecen, encode .pecdis, encode .arpen, encode .arpdis, encode .spcen, encode .spcdis, encode .sblken,
    encode .sblkdis, encode .si2cen, encode .si2cdis, encode (.sarset true), encode (.savset true), encode .sudidset] =
    [0x03#32, 0x04#32, 0x05#32, 0x06#32, 0x34#32, 0x35#32, 0x36#32, 0x37#32, 0x38#32, 0x39#32, 0x13B#32, 0x13D#32,
      0x3E#32] ∧
  ∀ s : State, s.inited = true →
    exec .pecen s = .next { s with flags := { s.flags with pec := true }, result := ⟨false, .ok, 0#8⟩ } ∧
    exec .pecdis s = .next { s with flags := { s.flags with pec := false }, result := ⟨false, .ok, 0#8⟩ } ∧
    exec .arpen s = .next { s with flags := { s.flags with arp := true }, result := ⟨false, .ok, 0#8⟩ } ∧
    exec .arpdis s = .next { s with flags := { s.flags with arp := false }, result := ⟨false, .ok, 0#8⟩ } ∧
    exec .spcen s = .next { s with flags := { s.flags with pc := true }, result := ⟨false, .ok, 0#8⟩ } ∧
    exec .spcdis s = .next { s with flags := { s.flags with pc := false }, result := ⟨false, .ok, 0#8⟩ } ∧
    exec .sblken s = .next { s with flags := { s.flags with blk := true }, result := ⟨false, .ok, 0#8⟩ } ∧
    exec .sblkdis s = .next { s with flags := { s.flags with blk := false }, result := ⟨false, .ok, 0#8⟩ } ∧
    exec .si2cen s = .next { s with flags := { s.flags with raw := true }, result := ⟨false, .ok, 0#8⟩ } ∧
    exec .si2cdis s = .next { s with flags := { s.flags with raw := false }, result := ⟨false, .ok, 0#8⟩ } ∧
    (∀ v, exec (.sarset v) s = .next { s with flags := { s.flags with ar := v }, result := ⟨false, .ok, 0#8⟩ }) ∧
    (∀ v, exec (.savset v) s = .next { s with flags := { s.flags with av := v }, result := ⟨false, .ok, 0#8⟩ }) ∧
    exec .sudidset s = .next { s with udidBound := true, result := ⟨false, .ok, 0#8⟩ }

/-- R127, R128, R278, R285, R286, R293, R295: each getter has its word and writes nothing but `result`; SMACKGET and SADDRGET
read the transport's bits. -/
def Obligations.GettersWriteOnlyResult : Prop :=
  [encode .statget, encode .rxcnt, encode .scmdget, encode .sarget, encode .savget, encode .smackget, encode .saddrget] =
    [0x07#32, 0x08#32, 0x33#32, 0x3A#32, 0x3C#32, 0x42#32, 0x46#32] ∧
  ∀ s : State, s.inited = true →
    exec .statget s = .next { s with
      result := ⟨false, if s.flags.tip = true then .transferInProgress else .transferComplete, 0#8⟩ } ∧
    exec .rxcnt s = .next { s with result := ⟨false, .ok, s.rxIndex⟩ } ∧
    exec .scmdget s = .next { s with result := ⟨false, .ok, s.currentCommand⟩ } ∧
    exec .sarget s = .next { s with result := ⟨false, .ok, if s.flags.ar = true then 1#8 else 0#8⟩ } ∧
    exec .savget s = .next { s with result := ⟨false, .ok, if s.flags.av = true then 1#8 else 0#8⟩ } ∧
    exec .smackget s = .next { s with
      result := ⟨false, .ok, if s.inputs.ackOverride = true then 1#8 else 0#8⟩ } ∧
    exec .saddrget s = .next { s with
      result := ⟨false, if s.inputs.stOwn2 = true then .secondaryAddressMatched else .primaryAddressMatched, 0#8⟩ }

/-- R129, R130, R276, R277, R279: each pass-through command has its word, emits one transport action and writes no state but
`result`. -/
def Obligations.PassThroughsEmitOneAction : Prop :=
  [encode .minten, encode .sinten, encode .smacken, encode .smackdis, encode (.sacksend false), encode (.sacksend true)] =
    [0x09#32, 0x0A#32, 0x40#32, 0x41#32, 0x43#32, 0x143#32] ∧
  ∀ s : State, s.inited = true →
    exec .minten s = .next { s with trace := s.trace ++ [.mIen], result := ⟨false, .ok, 0#8⟩ } ∧
    exec .sinten s = .next { s with trace := s.trace ++ [.sIen], result := ⟨false, .ok, 0#8⟩ } ∧
    exec .smacken s = .next { s with trace := s.trace ++ [.sAckOvr true], result := ⟨false, .ok, 0#8⟩ } ∧
    exec .smackdis s = .next { s with trace := s.trace ++ [.sAckOvr false], result := ⟨false, .ok, 0#8⟩ } ∧
    ∀ v, exec (.sacksend v) s = .next { s with trace := s.trace ++ [.sAckVal v], result := ⟨false, .ok, 0#8⟩ }

/-- R281 to R284: the slave's transfer init, its two size declarations and its own-address slots, and the words R281 to R284 write
out. -/
def Obligations.SlaveBufferAndAddressSetters : Prop :=
  [encode .sxferinit, encode (.stxset 2#8), encode (.srxset 32#8), encode (.saddrset 0x5A#7 false),
    encode (.saddrset 0x2C#7 true)] = [0x45#32, 0x02000031#32, 0x20000032#32, 0x00005A30#32, 0x00012C30#32] ∧
  ∀ s : State, s.inited = true →
    exec .sxferinit s = .next { s with
      txIndex := 0#8, rxIndex := 0#8, txSize := 0#8, computedCrc := 0#8, receivedCrc := 0#8, slaveCursor := .idle,
      flags := { s.flags with tip := false }, result := ⟨false, .ok, 0#8⟩ } ∧
    (∀ n, exec (.stxset n) s = .next { s with txSize := n, txIndex := 0#8, result := ⟨false, .ok, 0#8⟩ }) ∧
    (∀ n, exec (.srxset n) s = .next { s with rxSize := n, rxIndex := 0#8, result := ⟨false, .ok, 0#8⟩ }) ∧
    (∀ a, exec (.saddrset a false) s = .next { s with
      saddr0 := a, trace := s.trace ++ [.sAddr false a], result := ⟨false, .ok, 0#8⟩ }) ∧
    (∀ a, exec (.saddrset a true) s = .next { s with
      saddr1 := a, trace := s.trace ++ [.sAddr true a], result := ⟨false, .ok, 0#8⟩ })

/-! ## What holds of every command -/

/-- R31: which commands can set and which can clear each flag. AR, AV and ARP have setters of their own; every start
command may write PC, BLK, RAW; TIP has no host setter (SXFERINIT clears it). -/
def Obligations.FlagsChangeOnlyByTheirCommands : Prop :=
  ∀ (i : Instr) (s t : State), exec i s = .next t →
    (s.flags.pec = false → t.flags.pec = true → i = .pecen) ∧
    (s.flags.pec = true → t.flags.pec = false → i = .pecdis ∨ i = .minit ∨ i = .sinit ∨
      (∃ a b, i = .mquick a b) ∨ (∃ a n, i = .mi2cwr a n) ∨ (∃ a n, i = .mi2crd a n) ∨ ∃ a m n, i = .mi2cwrrd a m n) ∧
    (s.flags.pc = false → t.flags.pc = true → i = .spcen ∨ (∃ a c, i = .mpcall a c) ∨
      (∃ a c n, i = .mbpcall a c n) ∨ ∃ a m n, i = .mi2cwrrd a m n) ∧
    (s.flags.pc = true → t.flags.pc = false → i = .spcdis ∨ i = .minit ∨ i = .sinit ∨ startsMaster i = true) ∧
    (s.flags.blk = false → t.flags.blk = true → i = .sblken ∨ (∃ a c n, i = .mblkwr a c n) ∨ (∃ a c, i = .mblkrd a c) ∨
      (∃ a c n, i = .mbpcall a c n) ∨ i = .arpgug ∨ (∃ a, i = .arpgud a) ∨ ∃ x, i = .arpassign x) ∧
    (s.flags.blk = true → t.flags.blk = false → i = .sblkdis ∨ i = .minit ∨ i = .sinit ∨ startsMaster i = true) ∧
    (s.flags.tip = false → t.flags.tip = true → startsMaster i = true ∨ i = .sintp ∨ i = .sdsend) ∧
    (s.flags.tip = true → t.flags.tip = false → i = .mintp ∨ i = .sintp ∨ i = .sxferinit ∨ i = .minit ∨ i = .sinit) ∧
    (s.flags.raw = false → t.flags.raw = true → i = .si2cen ∨ (∃ a n, i = .mi2cwr a n) ∨ (∃ a n, i = .mi2crd a n) ∨
      ∃ a m n, i = .mi2cwrrd a m n) ∧
    (s.flags.raw = true → t.flags.raw = false → i = .si2cdis ∨ i = .minit ∨ i = .sinit ∨ startsMaster i = true) ∧
    (s.flags.ar = false → t.flags.ar = true → i = .sarset true) ∧
    (s.flags.ar = true → t.flags.ar = false → i = .sarset false ∨ i = .minit ∨ i = .sinit) ∧
    (s.flags.av = false → t.flags.av = true → i = .savset true) ∧
    (s.flags.av = true → t.flags.av = false → i = .savset false ∨ i = .minit ∨ i = .sinit) ∧
    (s.flags.arp = false → t.flags.arp = true → i = .arpen) ∧
    (s.flags.arp = true → t.flags.arp = false → i = .arpdis ∨ i = .minit ∨ i = .sinit)

/-- R60, R62, R33: the controller writes TXBUF only in UDIDENC, ARPASSIGN and ARPNOTIFY; RXBUF only in MINTP and SINTP, one
byte, at `rx_index`, and only while `rx_index < rx_size`; the UDID bank only in UDIDDEC. R22: `rx_index` is zeroed or
moves by one below `rx_size`, by the commands R22 names, so `rx_index <= rx_size` is kept, except where MINTP or SINTP adopts a
smaller size byte, as the pseudocode of R224 and R263 has it, `rx_index` standing still (R362): the overrun of R21, which the
next byte converts to an error, the index still (DEDUCED, log entry 17). -/
def Obligations.BuffersChangeOnlyByTheirCommands : Prop :=
  ∀ (i : Instr) (s t : State), exec i s = .next t →
    (∀ a, t.txbuf.read a ≠ s.txbuf.read a →
      ((∃ x, i = .udidenc x) ∨ (∃ x, i = .arpassign x)) ∧ a < 17 ∨ (∃ c, i = .arpnotify c) ∧ a < 2) ∧
    (∀ a, t.rxbuf.read a ≠ s.rxbuf.read a →
      (i = .mintp ∨ i = .sintp) ∧ a = s.rxIndex.toNat ∧ s.rxIndex < s.rxSize ∧ t.rxIndex = s.rxIndex + 1#8 ∧
        t.rxbuf.read a = some s.inputs.data) ∧
    (t.rxIndex ≠ s.rxIndex →
      (t.rxIndex = 0#8 ∧ (startsMaster i = true ∨ (∃ n, i = .srxset n) ∨ i = .sxferinit ∨ i = .minit ∨ i = .sinit)) ∨
      ((i = .mintp ∨ i = .sintp) ∧ s.rxIndex < s.rxSize ∧ t.rxIndex = s.rxIndex + 1#8)) ∧
    (s.rxIndex ≤ s.rxSize → t.rxSize < t.rxIndex → t.rxIndex = s.rxIndex ∧ t.rxSize = s.inputs.data ∧
      ((i = .mintp ∧ s.masterCursor = .readBlockSize ∧ ∀ x : Inputs, x.noMasterError = true →
          ∃ u, exec .mintp { t with inputs := x } = .next u ∧ u.result.status = .dataSizeError ∧ u.rxIndex = t.rxIndex) ∨
        (i = .sintp ∧ s.slaveCursor = .slavePostCommand ∧ s.flags.blk = true ∧ ∀ x : Inputs, x.intStop = false →
          x.intData = true → x.stFbr = false → x.stRreq = true →
          ∃ u, exec .sintp { t with inputs := x } = .next u ∧ u.result.status = .slaveError ∧ u.rxIndex = t.rxIndex))) ∧
    (t.udid ≠ s.udid → i = .udiddec)

/-- R29: the two engines meet in one write only. No slave command writes `master_cursor`; a master command that
changes `slave_cursor` writes the turn-around value, and is MINTP leaving `WriteFinal` in a process call, or MI2CWRRD
with a one-byte write part. -/
def Obligations.EnginesMeetOnlyAtTheTurnAround : Prop :=
  ∀ (i : Instr) (s t : State), exec i s = .next t →
    (t.masterCursor ≠ s.masterCursor → i = .mintp ∨ startsMaster i = true ∨ i = .minit ∨ i = .sinit) ∧
    (t.slaveCursor ≠ s.slaveCursor →
      (i = .sintp ∨ i = .sdsend ∨ i = .sxferinit ∨ i = .minit ∨ i = .sinit) ∨
      (t.slaveCursor = turnaroundCursor ∧ t.masterCursor = .readFirst ∧
        ((i = .mintp ∧ s.masterCursor = .writeFinal ∧ s.flags.pc = true) ∨ ∃ a n, i = .mi2cwrrd a 1#8 n)))

/-- R25: with PEC off no command but the resets of R113 writes a CRC field, and none reads one: with other values in the two
fields it answers the same but for those fields. SINTP's `ReadPEC`, whose pseudocode (R267) does not look at the flag, is no
exception here: that R25 and R131 hold there is the model's choice (log entry 21). -/
def Obligations.PecOffLeavesTheCrcFields : Prop :=
  ∀ (i : Instr) (s t : State), s.flags.pec = false → exec i s = .next t →
    ((t.computedCrc = s.computedCrc ∧ t.receivedCrc = s.receivedCrc) ∨
    (t.computedCrc = 0#8 ∧ t.receivedCrc = 0#8 ∧
      (startsMaster i = true ∨ i = .sxferinit ∨ i = .minit ∨ i = .sinit))) ∧
    (∀ c r : Byte, ∃ c' r' : Byte, exec i { s with computedCrc := c, receivedCrc := r } =
      .next { t with computedCrc := c', receivedCrc := r' })

/-- R71, R98, R102: a command only appends to the trace, at most three actions. Two clauses are about fields of the model's
own and rest on its log: that a command leaves the host's side (schedule, inputs, reply) alone (log entries 5, 6 and 9), and
that no step, a hardware reset among them, changes the ARP parameters (PRESUMED, log entry 16; DESIGN CHOICE, log entry
13). -/
def Obligations.CommandsOnlyAppendActions : Prop :=
  (∀ (i : Instr) (s t : State), exec i s = .next t →
    (∃ actions, t.trace = s.trace ++ actions ∧ actions.length ≤ 3) ∧
    t.schedule = s.schedule ∧ t.inputs = s.inputs ∧ t.reply = s.reply) ∧
  (∀ s t : State, step s = .next t → t.arpParams = s.arpParams)

/-- R375: every command ends in one step whatever the inputs, provided the bytes the spec says must have been written
are written (R69, R304) and the raw first byte has room (R262). -/
def Obligations.EveryCommandCompletes : Prop :=
  ∀ (i : Instr) (s : State),
    (∀ a, a < s.txSize.toNat ∨ a = 0 → s.txbuf.read a ≠ none) → (∀ a, a < 17 → s.rxbuf.read a ≠ none) →
    s.udidWritten.all = true → (s.flags.raw = true → s.rxIndex < s.rxSize) → ∃ t, exec i s = .next t

/-- R69, R262, R304: no command is refused, and a command stops only for the TXBUF byte that is due (MINTP, SINTP, SDSEND),
`TXBUF[0]` (the raw writes), an RXBUF byte (UDIDDEC) or a UDID register (UDIDENC, ARPASSIGN) that nothing has written, or in
SINTP for the raw first byte beyond the declared capacity. -/
def Obligations.CommandsStopOnlyOnMissingData : Prop :=
  ∀ (i : Instr) (s : State),
    (∀ r, exec i s ≠ .refused r) ∧
    (∀ f, exec i s = .fault f →
      (f = .unwrittenTxByte s.txIndex.toNat ∧ s.txbuf.read s.txIndex.toNat = none ∧ s.txIndex < s.txSize ∧
        (i = .mintp ∨ i = .sintp ∨ i = .sdsend)) ∨
      (f = .unwrittenTxByte 0 ∧ s.txbuf.read 0 = none ∧ ((∃ a n, i = .mi2cwr a n) ∨ ∃ a m n, i = .mi2cwrrd a m n)) ∨
      (∃ k, f = .unwrittenRxByte k ∧ s.rxbuf.read k = none ∧ k < 17 ∧ i = .udiddec) ∨
      (f = .unwrittenUdid ∧ s.udidWritten.all = false ∧ ((∃ x, i = .udidenc x) ∨ ∃ x, i = .arpassign x)) ∨
      (f = .rawStoreBeyondCapacity s.rxIndex.toNat ∧ s.rxSize ≤ s.rxIndex ∧ s.flags.raw = true ∧ i = .sintp))

/-! ## The CRC and the wire bytes (40_crc8.md, 20_memory.md) -/

/-- R111: incrementality, dependence on `s xor b` only, the two bijections, that one flipped bit always changes the CRC,
and that appending the CRC gives zero. -/
def Obligations.CrcProperties : Prop :=
  (∀ (s : Byte) (xs ys : List Byte), crc8 (crc8 s xs) ys = crc8 s (xs ++ ys)) ∧
  (∀ s b : Byte, crc8 s [b] = crc8 0#8 [s ^^^ b]) ∧
  (∀ s : Byte, Function.Bijective fun b => crc8 s [b]) ∧ (∀ b : Byte, Function.Bijective fun s => crc8 s [b]) ∧
  (∀ (s : Byte) (xs ys : List Byte) (b : Byte) (k : Nat), k < 8 →
    crc8 s (xs ++ b :: ys) ≠ crc8 s (xs ++ (b ^^^ (1#8 <<< k)) :: ys)) ∧
  (∀ (s : Byte) (xs : List Byte), crc8 s (xs ++ [crc8 s xs]) = 0#8)

/-- R66: the address-plus-direction byte has the address in bits 7:1 and the direction bit in bit 0. -/
def Obligations.AddressByteLayout : Prop :=
  ∀ (a : BusAddr) (d : Bool), (addrByte a d).toNat = 2 * a.toNat + d.toNat

/-! ## Master starts (42_master_start.md) -/

/-- R171: with the transport's peripheral busy, every start command and helper writes nothing but `result` and emits
nothing, whatever its size operand. -/
def Obligations.BusyPeripheralRefusesEveryStart : Prop :=
  ∀ (i : Instr) (s : State), s.inited = true → startsMaster i = true → s.inputs.periphBusy = true →
    exec i s = .next { s with result := ⟨false, .peripheralBusy, 0#8⟩ }

/-- R172: a size outside the limits gives DataSizeError before any write. -/
def Obligations.BadSizesAreRejected : Prop :=
  ∀ (s : State) (a : BusAddr) (c m n : Byte), s.inited = true → s.inputs.periphBusy = false →
    (n.toNat = 0 ∨ 2 < n.toNat →
      exec (.mwrite a c n) s = .next { s with result := ⟨false, .dataSizeError, 0#8⟩ } ∧
      exec (.mread a c n) s = .next { s with result := ⟨false, .dataSizeError, 0#8⟩ }) ∧
    (n.toNat = 0 ∨ 32 < n.toNat →
      exec (.mblkwr a c n) s = .next { s with result := ⟨false, .dataSizeError, 0#8⟩ } ∧
      exec (.mbpcall a c n) s = .next { s with result := ⟨false, .dataSizeError, 0#8⟩ }) ∧
    (n.toNat = 0 →
      exec (.mi2cwr a n) s = .next { s with result := ⟨false, .dataSizeError, 0#8⟩ } ∧
      exec (.mi2crd a n) s = .next { s with result := ⟨false, .dataSizeError, 0#8⟩ }) ∧
    (m.toNat = 0 ∨ n.toNat = 0 →
      exec (.mi2cwrrd a m n) s = .next { s with result := ⟨false, .dataSizeError, 0#8⟩ })

/-- R180, R189 with R173 to R177: Quick Command (PEC off, no byte, nothing to send or receive) and Host Notify (to
the SMBus host address 0x08, two data bytes). -/
def Obligations.QuickCommandAndHostNotifyStart : Prop :=
  ∀ (s : State) (a : BusAddr) (d : Bool) (c : Byte), s.inited = true → s.inputs.periphBusy = false →
    exec (.mquick a d) s = .next { s with
      targetAddress := a, txSize := 0#8, txIndex := 0#8, rxSize := 0#8, rxIndex := 0#8, computedCrc := 0#8,
      receivedCrc := 0#8, masterCursor := .idle,
      flags := { s.flags with blk := false, pc := false, raw := false, pec := false, tip := true },
      trace := s.trace ++ [.mAddr a d, .mCtl .quickCommand],
      result := ⟨false, if s.inputs.busBusy = true then .busBusy else .ok, 0#8⟩ } ∧
    exec (.mnotify c) s = .next { s with
      targetAddress := 0x08#7, currentCommand := c, txSize := 2#8, txIndex := 0#8, rxSize := 0#8, rxIndex := 0#8,
      computedCrc := if s.flags.pec = true then crc8 0#8 [0x10#8, c] else 0#8, receivedCrc := 0#8,
      masterCursor := .writeNext,
      flags := { s.flags with blk := false, pc := false, raw := false, tip := true },
      trace := s.trace ++ [.mAddr 0x08#7 false, .mPut c, .mCtl .sendStart],
      result := ⟨false, if s.inputs.busBusy = true then .busBusy else .ok, 0#8⟩ }

/-- R181, R182 with R173 to R177: Send Byte and Receive Byte; the entry state depends on PEC. -/
def Obligations.SendAndReceiveByteStart : Prop :=
  ∀ (s : State) (a : BusAddr) (x : Byte), s.inited = true → s.inputs.periphBusy = false →
    exec (.msendb a x) s = .next { s with
      targetAddress := a, currentCommand := x, txSize := 0#8, txIndex := 0#8, rxSize := 0#8, rxIndex := 0#8,
      computedCrc := if s.flags.pec = true then crc8 0#8 [addrByte a false, x] else 0#8, receivedCrc := 0#8,
      masterCursor := if s.flags.pec = true then .writeFinal else .idle,
      flags := { s.flags with blk := false, pc := false, raw := false, tip := true },
      trace := s.trace ++ [.mAddr a false, .mPut x, .mCtl (if s.flags.pec = true then .sendStart else .singleSend)],
      result := ⟨false, if s.inputs.busBusy = true then .busBusy else .ok, 0#8⟩ } ∧
    exec (.mrecvb a) s = .next { s with
      targetAddress := a, txSize := 0#8, txIndex := 0#8, rxSize := 1#8, rxIndex := 0#8,
      computedCrc := if s.flags.pec = true then crc8 0#8 [addrByte a true] else 0#8, receivedCrc := 0#8,
      masterCursor := if s.flags.pec = true then .readFinal else .readWait,
      flags := { s.flags with blk := false, pc := false, raw := false, tip := true },
      trace := s.trace ++ [.mAddr a true, .mCtl (if s.flags.pec = true then .recvStart else .singleReceive)],
      result := ⟨false, if s.inputs.busBusy = true then .busBusy else .ok, 0#8⟩ }

/-- R183, R184 with R173 to R177: Write and Read Byte or Word, sizes 1 and 2. -/
def Obligations.WriteAndReadWordStart : Prop :=
  ∀ (s : State) (a : BusAddr) (c n : Byte), s.inited = true → s.inputs.periphBusy = false → n = 1#8 ∨ n = 2#8 →
    exec (.mwrite a c n) s = .next { s with
      targetAddress := a, currentCommand := c, txSize := n, txIndex := 0#8, rxSize := 0#8, rxIndex := 0#8,
      computedCrc := if s.flags.pec = true then crc8 0#8 [addrByte a false, c] else 0#8, receivedCrc := 0#8,
      masterCursor := if n = 1#8 ∧ s.flags.pec = false then .writeFinal else .writeNext,
      flags := { s.flags with blk := false, pc := false, raw := false, tip := true },
      trace := s.trace ++ [.mAddr a false, .mPut c, .mCtl .sendStart],
      result := ⟨false, if s.inputs.busBusy = true then .busBusy else .ok, 0#8⟩ } ∧
    exec (.mread a c n) s = .next { s with
      targetAddress := a, currentCommand := c, txSize := 0#8, txIndex := 0#8, rxSize := n, rxIndex := 0#8,
      computedCrc := if s.flags.pec = true then crc8 0#8 [addrByte a false, c] else 0#8, receivedCrc := 0#8,
      masterCursor := .readFirst,
      flags := { s.flags with blk := false, pc := false, raw := false, tip := true },
      trace := s.trace ++ [.mAddr a false, .mPut c, .mCtl .sendStart],
      result := ⟨false, if s.inputs.busBusy = true then .busBusy else .ok, 0#8⟩ }

/-- R185, R186 with R173 to R177: Block Write, sizes 1 to 32, and Block Read with its placeholder size 3. -/
def Obligations.BlockWriteAndReadStart : Prop :=
  ∀ (s : State) (a : BusAddr) (c n : Byte), s.inited = true → s.inputs.periphBusy = false →
    (1 ≤ n.toNat → n.toNat ≤ 32 → exec (.mblkwr a c n) s = .next { s with
      targetAddress := a, currentCommand := c, txSize := n, txIndex := 0#8, rxSize := 0#8, rxIndex := 0#8,
      computedCrc := if s.flags.pec = true then crc8 0#8 [addrByte a false, c] else 0#8, receivedCrc := 0#8,
      masterCursor := .writeBlockSize,
      flags := { s.flags with blk := true, pc := false, raw := false, tip := true },
      trace := s.trace ++ [.mAddr a false, .mPut c, .mCtl .sendStart],
      result := ⟨false, if s.inputs.busBusy = true then .busBusy else .ok, 0#8⟩ }) ∧
    exec (.mblkrd a c) s = .next { s with
      targetAddress := a, currentCommand := c, txSize := 0#8, txIndex := 0#8, rxSize := 3#8, rxIndex := 0#8,
      computedCrc := if s.flags.pec = true then crc8 0#8 [addrByte a false, c] else 0#8, receivedCrc := 0#8,
      masterCursor := .readFirst,
      flags := { s.flags with blk := true, pc := false, raw := false, tip := true },
      trace := s.trace ++ [.mAddr a false, .mPut c, .mCtl .sendStart],
      result := ⟨false, if s.inputs.busBusy = true then .busBusy else .ok, 0#8⟩ }

/-- R187, R188 with R173 to R177: Process Call (sizes fixed at 2) and Block Process Call, sizes 1 to 32. -/
def Obligations.ProcessCallsStart : Prop :=
  ∀ (s : State) (a : BusAddr) (c n : Byte), s.inited = true → s.inputs.periphBusy = false →
    exec (.mpcall a c) s = .next { s with
      targetAddress := a, currentCommand := c, txSize := 2#8, txIndex := 0#8, rxSize := 2#8, rxIndex := 0#8,
      computedCrc := if s.flags.pec = true then crc8 0#8 [addrByte a false, c] else 0#8, receivedCrc := 0#8,
      masterCursor := .writeNext,
      flags := { s.flags with blk := false, pc := true, raw := false, tip := true },
      trace := s.trace ++ [.mAddr a false, .mPut c, .mCtl .sendStart],
      result := ⟨false, if s.inputs.busBusy = true then .busBusy else .ok, 0#8⟩ } ∧
    (1 ≤ n.toNat → n.toNat ≤ 32 → exec (.mbpcall a c n) s = .next { s with
      targetAddress := a, currentCommand := c, txSize := n, txIndex := 0#8, rxSize := 3#8, rxIndex := 0#8,
      computedCrc := if s.flags.pec = true then crc8 0#8 [addrByte a false, c] else 0#8, receivedCrc := 0#8,
      masterCursor := .writeBlockSize,
      flags := { s.flags with blk := true, pc := true, raw := false, tip := true },
      trace := s.trace ++ [.mAddr a false, .mPut c, .mCtl .sendStart],
      result := ⟨false, if s.inputs.busBusy = true then .busBusy else .ok, 0#8⟩ })

/-- R194, R195 with R173 to R177, R192: raw I2C write of 1 to 255 bytes, `TXBUF[0]` armed by the start, and raw I2C read of
1 to 255 bytes; the entry and the control command depend on the size. -/
def Obligations.RawWriteAndReadStart : Prop :=
  ∀ (s : State) (a : BusAddr) (n : Byte), s.inited = true → s.inputs.periphBusy = false → n ≠ 0#8 →
    (∀ b : Byte, s.txbuf.read 0 = some b → exec (.mi2cwr a n) s = .next { s with
      targetAddress := a, txSize := n, txIndex := 1#8, rxSize := 0#8, rxIndex := 0#8, computedCrc := 0#8,
      receivedCrc := 0#8,
      masterCursor := if n = 1#8 then .idle else if n = 2#8 then .writeFinal else .writeNext,
      flags := { s.flags with blk := false, pc := false, raw := true, pec := false, tip := true },
      trace := s.trace ++ [.mAddr a false, .mPut b, .mCtl (if n = 1#8 then .singleSend else .sendStart)],
      result := ⟨false, if s.inputs.busBusy = true then .busBusy else .ok, 0#8⟩ }) ∧
    exec (.mi2crd a n) s = .next { s with
      targetAddress := a, txSize := 0#8, txIndex := 0#8, rxSize := n, rxIndex := 0#8, computedCrc := 0#8,
      receivedCrc := 0#8,
      masterCursor := if n = 1#8 then .readWait else if n = 2#8 then .readFinal else .readNext,
      flags := { s.flags with blk := false, pc := false, raw := true, pec := false, tip := true },
      trace := s.trace ++ [.mAddr a true, .mCtl (if n = 1#8 then .singleReceive else .recvStart)],
      result := ⟨false, if s.inputs.busBusy = true then .busBusy else .ok, 0#8⟩ }

/-- R196 with R173 to R177, R192, R222: raw I2C write then read; with a one-byte write part the turn-around value goes to
`slave_cursor` at once. -/
def Obligations.RawWriteReadStarts : Prop :=
  ∀ (s : State) (a : BusAddr) (m n b : Byte), s.inited = true → s.inputs.periphBusy = false → m ≠ 0#8 → n ≠ 0#8 →
    s.txbuf.read 0 = some b →
    exec (.mi2cwrrd a m n) s = .next { s with
      targetAddress := a, txSize := m, txIndex := 1#8, rxSize := n, rxIndex := 0#8, computedCrc := 0#8,
      receivedCrc := 0#8,
      masterCursor := if m = 1#8 then .readFirst else if m = 2#8 then .writeFinal else .writeNext,
      slaveCursor := if m = 1#8 then turnaroundCursor else s.slaveCursor,
      flags := { s.flags with blk := false, pc := true, raw := true, pec := false, tip := true },
      trace := s.trace ++ [.mAddr a false, .mPut b, .mCtl .sendStart],
      result := ⟨false, if s.inputs.busBusy = true then .busBusy else .ok, 0#8⟩ }

/-! ## The master interrupt (43_master_int.md) -/

/-- R210 to R214, R327: timeout before arbitration before NACK before the handlers, and what each path writes; a NACK
with the bus still busy emits an error stop and leaves TIP as it is. -/
def Obligations.MasterErrorPaths : Prop :=
  ∀ s : State, s.inited = true →
    (s.inputs.intTimeout = true → exec .mintp s = .next { s with
      masterCursor := .idle, flags := { s.flags with tip := false }, trace := s.trace ++ [.mIclrTimeout],
      result := ⟨false, .timeout, 0#8⟩ }) ∧
    (s.inputs.intTimeout = false → s.inputs.errArb = true → exec .mintp s = .next { s with
      masterCursor := .idle, flags := { s.flags with tip := false }, trace := s.trace ++ [.mIclrData],
      result := ⟨false, .arbitrationLost, 0#8⟩ }) ∧
    (s.inputs.intTimeout = false → s.inputs.errArb = false →
      s.inputs.errAddrNack = true ∨ s.inputs.errDataNack = true → exec .mintp s = .next { s with
        masterCursor := .idle,
        flags := { s.flags with tip := if s.inputs.busBusy = true then s.flags.tip else false },
        trace := s.trace ++ (if s.inputs.busBusy = true then [.mIclrData, .mCtl .errorStop] else [.mIclrData]),
        result := ⟨false, if s.inputs.errAddrNack = true then .addressAckError else .dataAckError, 0#8⟩ })

/-- R217, R218, R230: the handlers of `Idle`, of the codes with no master handler, and of `ReadErrorStop`. -/
def Obligations.MasterIdleDefaultAndErrorStop : Prop :=
  ∀ s : State, s.inited = true → s.inputs.noMasterError = true →
    (s.masterCursor = .idle → exec .mintp s = .next { s with
      flags := { s.flags with tip := false }, trace := s.trace ++ [.mIclrData], result := ⟨false, .ok, 0#8⟩ }) ∧
    (s.masterCursor ∈ [Cursor.slavePostCommand, .writeDone, .readPec, .readDone, .unused] →
      exec .mintp s = .next { s with
        masterCursor := .idle, flags := { s.flags with tip := false }, trace := s.trace ++ [.mIclrData],
        result := ⟨false, .masterError, 0#8⟩ }) ∧
    (s.masterCursor = .readErrorStop → exec .mintp s = .next { s with
      masterCursor := .idle, flags := { s.flags with tip := false }, trace := s.trace ++ [.mIclrData, .mGet],
      result := ⟨false, .dataSizeError, 0#8⟩ })

/-- R218: the default branch is unreachable from good states: MINTP never answers MasterError there. -/
def Obligations.MasterErrorIsUnreachable : Prop :=
  ∀ s t : State, s.Good → s.inited = true → exec .mintp s = .next t → t.result.status ≠ .masterError

/-- R219, R220: `WriteBlockSize` sends the size byte; `WriteNext` sends the next payload byte and moves on when one wire
byte remains (R216). -/
def Obligations.MasterSendsSizeAndPayload : Prop :=
  ∀ s : State, s.inited = true → s.inputs.noMasterError = true →
    (s.masterCursor = .writeBlockSize → exec .mintp s = .next { s with
      computedCrc := if s.flags.pec = true then crc8 s.computedCrc [s.txSize] else s.computedCrc,
      masterCursor := if s.txSize = 1#8 ∧ s.flags.pec = false then .writeFinal else .writeNext,
      trace := s.trace ++ [.mIclrData, .mPut s.txSize, .mCtl .sendCont], result := ⟨false, .ok, 0#8⟩ }) ∧
    (∀ b : Byte, s.masterCursor = .writeNext → s.txIndex < s.txSize → s.txbuf.read s.txIndex.toNat = some b →
      exec .mintp s = .next { s with
        txIndex := s.txIndex + 1#8,
        computedCrc := if s.flags.pec = true then crc8 s.computedCrc [b] else s.computedCrc,
        masterCursor :=
          if (s.txSize.toNat - (s.txIndex.toNat + 1)) + (if s.flags.pec = true ∧ s.flags.pc = false then 1 else 0) = 1
          then .writeFinal else .writeNext,
        trace := s.trace ++ [.mIclrData, .mPut b, .mCtl .sendCont], result := ⟨false, .ok, 0#8⟩ })

/-- R221, R222: `WriteFinal` sends the PEC byte or the last payload byte and finishes, or, in a process call, sends the
byte, turns round to `ReadFirst` and writes the turn-around value. -/
def Obligations.MasterFinishesOrTurnsAround : Prop :=
  ∀ s : State, s.inited = true → s.inputs.noMasterError = true → s.masterCursor = .writeFinal →
    (s.flags.pec = true → s.flags.pc = false → exec .mintp s = .next { s with
      masterCursor := .idle, trace := s.trace ++ [.mIclrData, .mPut s.computedCrc, .mCtl .sendFinish],
      result := ⟨false, .ok, 0#8⟩ }) ∧
    (∀ b : Byte, s.flags.pec = false → s.flags.pc = false → s.txIndex < s.txSize →
      s.txbuf.read s.txIndex.toNat = some b → exec .mintp s = .next { s with
        txIndex := s.txIndex + 1#8, masterCursor := .idle,
        trace := s.trace ++ [.mIclrData, .mPut b, .mCtl .sendFinish], result := ⟨false, .ok, 0#8⟩ }) ∧
    (∀ b : Byte, s.flags.pc = true → s.txIndex < s.txSize → s.txbuf.read s.txIndex.toNat = some b →
      exec .mintp s = .next { s with
        txIndex := s.txIndex + 1#8,
        computedCrc := if s.flags.pec = true then crc8 s.computedCrc [b] else s.computedCrc,
        masterCursor := .readFirst, slaveCursor := turnaroundCursor,
        trace := s.trace ++ [.mIclrData, .mPut b, .mCtl .sendCont], result := ⟨false, .ok, 0#8⟩ })

/-- R227: the overrun paths touch no buffer and no index. -/
def Obligations.MasterOverruns : Prop :=
  ∀ s : State, s.inited = true → s.inputs.noMasterError = true →
    (s.txSize ≤ s.txIndex →
      s.masterCursor = .writeNext ∨ (s.masterCursor = .writeFinal ∧ (s.flags.pec = false ∨ s.flags.pc = true)) →
      exec .mintp s = .next { s with
        masterCursor := .idle, flags := { s.flags with tip := false },
        trace := s.trace ++ [.mIclrData, .mCtl .errorStop], result := ⟨false, .dataSizeError, 0#8⟩ }) ∧
    (s.rxSize ≤ s.rxIndex → s.masterCursor = .readNext ∨ s.masterCursor = .readFinal →
      exec .mintp s = .next { s with
        masterCursor := .readErrorStop, trace := s.trace ++ [.mIclrData, .mGet, .mCtl .recvFinish],
        result := ⟨false, .dataSizeError, 0#8⟩ })

/-- R223, R228: `ReadOne` and `ReadFirst` send the address with the read direction, fold it, and choose the receive state by
block mode and by the wire bytes still to come. -/
def Obligations.MasterTurnsToRead : Prop :=
  ∀ (s : State) (r : Nat), s.inited = true → s.inputs.noMasterError = true →
    s.masterCursor = .readOne ∨ s.masterCursor = .readFirst →
    r = (s.rxSize.toNat - s.rxIndex.toNat) + (if s.flags.pec = true then 1 else 0) →
    exec .mintp s = .next { s with
      computedCrc := if s.flags.pec = true then crc8 s.computedCrc [addrByte s.targetAddress true] else s.computedCrc,
      masterCursor := if s.flags.blk = true then .readBlockSize
        else if r = 1 then .readWait else if r = 2 then .readFinal else .readNext,
      trace := s.trace ++ [.mIclrData, .mAddr s.targetAddress true,
        .mCtl (if s.flags.blk = false ∧ r = 1 then .singleReceive else .recvStart)],
      result := ⟨false, .ok, 0#8⟩ }

/-- R224, R228: `ReadBlockSize` adopts a size of 1 to 32 and folds it; any other size is kept in `rx_size`, not folded, and
leads to `ReadErrorStop`. The bytes still to come are `n + pec1`, as R224's comment and R231 write, where R216 counts from
`rx_index` (DEDUCED, log entry 22). -/
def Obligations.MasterReadsBlockSize : Prop :=
  ∀ (s : State) (n : Byte) (r : Nat), s.inited = true → s.inputs.noMasterError = true →
    s.masterCursor = .readBlockSize → n = s.inputs.data →
    r = n.toNat + (if s.flags.pec = true then 1 else 0) →
    (n.toNat = 0 ∨ 32 < n.toNat → exec .mintp s = .next { s with
      rxSize := n, masterCursor := .readErrorStop, trace := s.trace ++ [.mIclrData, .mGet, .mCtl .recvFinish],
      result := ⟨false, .dataSizeError, 0#8⟩ }) ∧
    (1 ≤ n.toNat → n.toNat ≤ 32 → exec .mintp s = .next { s with
      rxSize := n, computedCrc := if s.flags.pec = true then crc8 s.computedCrc [n] else s.computedCrc,
      masterCursor := if r = 1 then .readWait else if r = 2 then .readFinal else .readNext,
      trace := s.trace ++ [.mIclrData, .mGet, .mCtl (if r = 1 then .recvFinish else .recvCont)],
      result := ⟨false, .ok, 0#8⟩ })

/-- R225, R226: `ReadNext` and `ReadFinal` store the byte at `RXBUF[rx_index]`, fold it and move on. -/
def Obligations.MasterStoresReceivedBytes : Prop :=
  ∀ s : State, s.inited = true → s.inputs.noMasterError = true → s.rxIndex < s.rxSize →
    s.masterCursor = .readNext ∨ s.masterCursor = .readFinal →
    ∃ m : Memory, exec .mintp s = .next { s with
      rxbuf := m, rxIndex := s.rxIndex + 1#8,
      computedCrc := if s.flags.pec = true then crc8 s.computedCrc [s.inputs.data] else s.computedCrc,
      masterCursor := if s.masterCursor = .readFinal then .readWait
        else if (s.rxSize.toNat - (s.rxIndex.toNat + 1)) + (if s.flags.pec = true then 1 else 0) = 2
          then .readFinal else .readNext,
      trace := s.trace ++ [.mIclrData, .mGet, .mCtl (if s.masterCursor = .readFinal then .recvFinish else .recvCont)],
      result := ⟨false, .ok, 0#8⟩ } ∧
    ∀ a, m.read a = if a = s.rxIndex.toNat then some s.inputs.data else s.rxbuf.read a

/-- R229: `ReadWait` compares the PEC byte with the accumulator, neither storing nor folding it, or stores the last
byte; it ends the transaction on every path. -/
def Obligations.MasterEndsTheRead : Prop :=
  ∀ s : State, s.inited = true → s.inputs.noMasterError = true → s.masterCursor = .readWait →
    (s.flags.pec = true → exec .mintp s = .next { s with
      receivedCrc := s.inputs.data, masterCursor := .idle, flags := { s.flags with tip := false },
      trace := s.trace ++ [.mIclrData, .mGet],
      result := ⟨false, if s.inputs.data = s.computedCrc then .ok else .pecError, 0#8⟩ }) ∧
    (s.flags.pec = false → s.rxSize ≤ s.rxIndex → exec .mintp s = .next { s with
      masterCursor := .idle, flags := { s.flags with tip := false }, trace := s.trace ++ [.mIclrData, .mGet],
      result := ⟨false, .dataSizeError, 0#8⟩ }) ∧
    (s.flags.pec = false → s.rxIndex < s.rxSize → ∃ m : Memory, exec .mintp s = .next { s with
      rxbuf := m, rxIndex := s.rxIndex + 1#8, masterCursor := .idle, flags := { s.flags with tip := false },
      trace := s.trace ++ [.mIclrData, .mGet], result := ⟨false, .ok, 0#8⟩ } ∧
      ∀ a, m.read a = if a = s.rxIndex.toNat then some s.inputs.data else s.rxbuf.read a)

/-- R117, R185, R232: a Block Write of `n` written bytes with no error input, whatever else each MINTP samples, is over after
`n + 2` MINTPs without PEC and `n + 3` with it: TIP is cleared, and the block has put the command, the size, the payload
and (with PEC) the CRC of every wire byte. -/
def Obligations.BlockWriteCompletes : Prop :=
  ∀ (s : State) (a : BusAddr) (c : Byte) (payload : List Byte) (ins : List Inputs),
    s.inited = true → s.inputs.periphBusy = false → 1 ≤ payload.length → payload.length ≤ 32 →
    (∀ k, k < payload.length → s.txbuf.read k = payload[k]?) →
    ins.length = payload.length + (if s.flags.pec = true then 3 else 2) → (∀ x ∈ ins, x.noMasterError = true) →
    ∃ (t0 t : State) (acts : List Action), exec (.mblkwr a c (BitVec.ofNat 8 payload.length)) s = .next t0 ∧
      afterMintps ins t0 = .next t ∧
      t.flags.tip = false ∧ t.masterCursor = .idle ∧ t.result = ⟨false, .ok, 0#8⟩ ∧ t.trace = s.trace ++ acts ∧
      putBytes acts = c :: BitVec.ofNat 8 payload.length :: payload ++
        (if s.flags.pec = true
          then [crc8 0#8 (addrByte a false :: c :: BitVec.ofNat 8 payload.length :: payload)] else [])

/-- R375: from every state of an initialised block whose payload is written, MINTPs that sample no NACK on a busy bus clear
TIP within `tx_size + max rx_size 32 + 5` of them, none of those faulting before; one MINTP that samples a timeout or an
arbitration loss clears it at once. -/
def Obligations.EveryTransactionEnds : Prop :=
  ∀ s : State, s.inited = true →
    (∀ ins : List Inputs, (∀ a, a < s.txSize.toNat → s.txbuf.read a ≠ none) →
      ins.length = s.txSize.toNat + max s.rxSize.toNat 32 + 5 →
      (∀ x ∈ ins, x.noMasterError = true ∨ x.busBusy = false) →
      ∃ (k : Nat) (t : State), k ≤ ins.length ∧ afterMintps (ins.take k) s = .next t ∧ t.flags.tip = false) ∧
    (∀ x : Inputs, x.intTimeout = true ∨ x.errArb = true →
      ∃ t : State, afterMintps [x] s = .next t ∧ t.flags.tip = false)

/-- R364: a Block Process Call with PEC and one payload byte never reaches `ReadFirst`: its third MINTP ends it with
DataSizeError. -/
def Obligations.OneByteBlockProcessCallWithPecFails : Prop :=
  ∀ (s : State) (a : BusAddr) (c b : Byte), s.inited = true → s.inputs.periphBusy = false →
    s.inputs.noMasterError = true → s.flags.pec = true → s.txbuf.read 0 = some b →
    ∃ t0 t1 t2 t3 : State, exec (.mbpcall a c 1#8) s = .next t0 ∧ exec .mintp t0 = .next t1 ∧
      exec .mintp t1 = .next t2 ∧ exec .mintp t2 = .next t3 ∧
      t1.masterCursor = .writeNext ∧ t2.masterCursor = .writeNext ∧ t3.masterCursor = .idle ∧
      t3.flags.tip = false ∧ t3.result = ⟨false, .dataSizeError, 0#8⟩ ∧
      t3.trace = s.trace ++ [.mAddr a false, .mPut c, .mCtl .sendStart, .mIclrData, .mPut 1#8, .mCtl .sendCont,
        .mIclrData, .mPut b, .mCtl .sendCont, .mIclrData, .mCtl .errorStop]

/-! ## The slave engine (44_slave.md) -/

/-- R250 to R254: START is cleared and the call goes on; STOP clears TIP and ends the call, with the three outcomes of a
Quick Command (its cursor kept) or, ordinarily, the cursor at `Idle`; without STOP and DATA nothing else happens. -/
def Obligations.SlaveStopAndStart : Prop :=
  ∀ (s : State) (started : List Action), s.inited = true →
    started = (if s.inputs.intStart = true then [.sIclrStart] else []) →
    (s.inputs.intStop = false → s.inputs.intData = false → exec .sintp s = .next { s with
      trace := s.trace ++ started, result := ⟨false, .ok, 0#8⟩ }) ∧
    (s.inputs.intStop = true → s.inputs.stQcmd = false → exec .sintp s = .next { s with
      slaveCursor := .idle, flags := { s.flags with tip := false }, trace := s.trace ++ (started ++ [.sIclrStop]),
      result := ⟨false, .transferComplete, 0#8⟩ }) ∧
    (s.inputs.intStop = true → s.inputs.stQcmd = true →
      s.rxIndex ≠ 0#8 ∨ s.txIndex ≠ 0#8 ∨ s.slaveCursor ≠ .idle → exec .sintp s = .next { s with
        flags := { s.flags with tip := false }, trace := s.trace ++ (started ++ [.sIclrStop]),
        result := ⟨false, .slaveError, 0#8⟩ }) ∧
    (s.inputs.intStop = true → s.inputs.stQcmd = true → s.rxIndex = 0#8 → s.txIndex = 0#8 → s.slaveCursor = .idle →
      exec .sintp s = .next { s with
        flags := { s.flags with tip := false }, trace := s.trace ++ (started ++ [.sIclrStop]),
        result := ⟨false, if s.inputs.stQcmdRw = true then .quickCommandOne else .quickCommandZero, 0#8⟩ })

/-- R255, R256, R261, R262: the first byte, whatever the cursor: the matched address is captured, the byte becomes the
command or, in raw mode with room, goes to RXBUF; with PEC the accumulator is seeded afresh; TIP is set. In raw mode without
room the run is invalid. -/
def Obligations.SlaveTakesFirstByte : Prop :=
  ∀ (s : State) (started : List Action) (own : BusAddr), s.inited = true → s.inputs.intStop = false →
    s.inputs.intData = true → s.inputs.stFbr = true →
    started = (if s.inputs.intStart = true then [.sIclrStart] else []) →
    own = (if s.inputs.stOwn2 = true then s.saddr1 else s.saddr0) →
    (s.flags.raw = false → exec .sintp s = .next { s with
      ownAddress := own, currentCommand := s.inputs.data,
      computedCrc := if s.flags.pec = true then crc8 (crc8 0#8 [addrByte own false]) [s.inputs.data] else s.computedCrc,
      slaveCursor := .slavePostCommand, flags := { s.flags with tip := true },
      trace := s.trace ++ (started ++ [.sIclrData, .sGet]), result := ⟨false, .firstByte, 0#8⟩ }) ∧
    (s.flags.raw = true → s.rxIndex < s.rxSize → ∃ m : Memory, exec .sintp s = .next { s with
      ownAddress := own, rxbuf := m, rxIndex := s.rxIndex + 1#8,
      computedCrc := if s.flags.pec = true then crc8 (crc8 0#8 [addrByte own false]) [s.inputs.data] else s.computedCrc,
      slaveCursor := .slavePostCommand, flags := { s.flags with tip := true },
      trace := s.trace ++ (started ++ [.sIclrData, .sGet]), result := ⟨false, .firstByte, 0#8⟩ } ∧
      ∀ a, m.read a = if a = s.rxIndex.toNat then some s.inputs.data else s.rxbuf.read a) ∧
    (s.flags.raw = true → s.rxSize ≤ s.rxIndex →
      exec .sintp s = .fault (.rawStoreBeyondCapacity s.rxIndex.toNat))

/-- R258, R260, R263 to R268: a later received byte. It is taken from the transport on every path; then it is the block
size, payload (stored, or SlaveError with the buffer full), the PEC byte, or unexpected. With PEC off a byte in `ReadPEC` is
neither compared nor stored (R25, R131) and its end is a free value: the model's choice (log entry 21). -/
def Obligations.SlaveTakesNextByte : Prop :=
  ∀ (s : State) (got : List Action) (b : Byte), s.inited = true → s.inputs.intStop = false → s.inputs.intData = true →
    s.inputs.stFbr = false → s.inputs.stRreq = true → b = s.inputs.data →
    got = (if s.inputs.intStart = true then [.sIclrStart] else []) ++ [.sIclrData, .sGet] →
    (s.slaveCursor = .slavePostCommand → s.flags.blk = true → s.rxSize < b → exec .sintp s = .next { s with
      slaveCursor := .readDone, trace := s.trace ++ got, result := ⟨false, .dataSizeError, 0#8⟩ }) ∧
    (s.slaveCursor = .slavePostCommand → s.flags.blk = true → b ≤ s.rxSize → exec .sintp s = .next { s with
      rxSize := b, computedCrc := if s.flags.pec = true then crc8 s.computedCrc [b] else s.computedCrc,
      slaveCursor := .readNext, trace := s.trace ++ got, result := ⟨false, .ok, 0#8⟩ }) ∧
    ((s.slaveCursor = .slavePostCommand ∧ s.flags.blk = false) ∨ s.slaveCursor = .readNext → s.rxSize ≤ s.rxIndex →
      exec .sintp s = .next { s with trace := s.trace ++ got, result := ⟨false, .slaveError, 0#8⟩ }) ∧
    ((s.slaveCursor = .slavePostCommand ∧ s.flags.blk = false) ∨ s.slaveCursor = .readNext → s.rxIndex < s.rxSize →
      ∃ m : Memory, exec .sintp s = .next { s with
        rxbuf := m, rxIndex := s.rxIndex + 1#8,
        computedCrc := if s.flags.pec = true then crc8 s.computedCrc [b] else s.computedCrc,
        slaveCursor := if s.rxIndex + 1#8 = s.rxSize
          then (if s.flags.pec = true ∧ s.flags.pc = false then .readPec else .readDone) else .readNext,
        trace := s.trace ++ got, result := ⟨false, .ok, 0#8⟩ } ∧
        ∀ a, m.read a = if a = s.rxIndex.toNat then some b else s.rxbuf.read a) ∧
    (s.slaveCursor = .readPec → s.flags.pec = true → exec .sintp s = .next { s with
      receivedCrc := b, slaveCursor := if b = s.computedCrc then .readDone else .readPec, trace := s.trace ++ got,
      result := ⟨false, if b = s.computedCrc then .ok else .pecError, 0#8⟩ }) ∧
    (s.slaveCursor = .readPec → s.flags.pec = false → ∃ (c : Cursor) (st : Status),
      (c, st) ∈ [(.readDone, .ok), (.readPec, .pecError), (.readPec, .slaveError)] ∧ exec .sintp s = .next { s with
        slaveCursor := c, freeDraws := s.freeDraws + 1, trace := s.trace ++ got, result := ⟨false, st, 0#8⟩ }) ∧
    (s.slaveCursor ≠ .slavePostCommand → s.slaveCursor ≠ .readNext → s.slaveCursor ≠ .readPec →
      exec .sintp s = .next { s with trace := s.trace ++ got, result := ⟨false, .slaveError, 0#8⟩ })

/-- R259, R270 to R274, R280: what SDSEND puts and where the cursor goes: nothing while the TX buffer is unset, the size
byte or a payload byte or the filler at the start of a direction, then payload, the PEC byte, fillers. -/
def Obligations.SlaveSendsAByte : Prop :=
  ∀ (s : State) (left : Nat) (first : List Cursor), s.inited = true →
    left = (s.txSize.toNat - s.txIndex.toNat) + (if s.flags.pec = true then 1 else 0) →
    first = [.idle, .slavePostCommand, .readNext, .readDone] →
    (s.txSize = 0#8 → exec .sdsend s = .next { s with result := ⟨false, .slaveNotReady, 0#8⟩ }) ∧
    (s.txSize ≠ 0#8 → s.slaveCursor ∈ first → s.flags.blk = true → exec .sdsend s = .next { s with
      computedCrc := if s.flags.pec = true then crc8 s.computedCrc [addrByte s.ownAddress true, s.txSize]
        else s.computedCrc,
      slaveCursor := cursorForRemaining left, flags := { s.flags with tip := true },
      trace := s.trace ++ [.sPut s.txSize], result := ⟨false, .ok, 0#8⟩ }) ∧
    (∀ b : Byte, s.slaveCursor ∈ first → s.flags.blk = false → s.txIndex < s.txSize → s.txbuf.read s.txIndex.toNat = some b →
      exec .sdsend s = .next { s with
        txIndex := s.txIndex + 1#8,
        computedCrc := if s.flags.pec = true then crc8 s.computedCrc [addrByte s.ownAddress true, b] else s.computedCrc,
        slaveCursor := cursorForRemaining (left - 1), flags := { s.flags with tip := true },
        trace := s.trace ++ [.sPut b], result := ⟨false, .ok, 0#8⟩ }) ∧
    (s.txSize ≠ 0#8 → s.slaveCursor ∈ first → s.flags.blk = false → s.txSize ≤ s.txIndex → exec .sdsend s = .next { s with
      computedCrc := if s.flags.pec = true then crc8 s.computedCrc [addrByte s.ownAddress true, 0xFF#8]
        else s.computedCrc,
      slaveCursor := cursorForRemaining left, flags := { s.flags with tip := true },
      trace := s.trace ++ [.sPut 0xFF#8], result := ⟨false, .ok, 0#8⟩ }) ∧
    (∀ b : Byte, s.slaveCursor = .writeNext ∨ s.slaveCursor = .writeFinal → s.txIndex < s.txSize →
      s.txbuf.read s.txIndex.toNat = some b → exec .sdsend s = .next { s with
        txIndex := s.txIndex + 1#8,
        computedCrc := if s.flags.pec = true then crc8 s.computedCrc [b] else s.computedCrc,
        slaveCursor := cursorForRemaining (left - 1), trace := s.trace ++ [.sPut b], result := ⟨false, .ok, 0#8⟩ }) ∧
    (s.txSize ≠ 0#8 → s.slaveCursor = .writeNext ∨ s.slaveCursor = .writeFinal → s.txSize ≤ s.txIndex →
      exec .sdsend s = .next { s with
        slaveCursor := .writeDone,
        trace := s.trace ++ [.sPut (if s.flags.pec = true then s.computedCrc else 0xFF#8)],
        result := ⟨false, .ok, 0#8⟩ }) ∧
    (s.txSize ≠ 0#8 → s.slaveCursor = .writeDone → exec .sdsend s = .next { s with
      trace := s.trace ++ [.sPut 0xFF#8], result := ⟨false, .ok, 0#8⟩ }) ∧
    (s.txSize ≠ 0#8 → s.slaveCursor ∉ first → s.slaveCursor ≠ .writeNext → s.slaveCursor ≠ .writeFinal → s.slaveCursor ≠ .writeDone →
      exec .sdsend s = .next { s with trace := s.trace ++ [.sPut 0xFF#8], result := ⟨false, .slaveError, 0#8⟩ })

/-- R255, R269, R280: a transmit request clears the interrupt, captures the matched address at the start of a direction,
and is then what SDSEND does; a DATA interrupt with no status bit set does nothing more. -/
def Obligations.SlaveTransmitRequest : Prop :=
  ∀ (s s1 : State), s.inited = true → s.inputs.intStop = false → s.inputs.intData = true →
    s.inputs.stFbr = false → s.inputs.stRreq = false →
    s1 = { s with trace := s.trace ++ (if s.inputs.intStart = true then [.sIclrStart, .sIclrData] else [.sIclrData]) } →
    (s.inputs.stTreq = false → exec .sintp s = .next { s1 with result := ⟨false, .ok, 0#8⟩ }) ∧
    (s.inputs.stTreq = true →
      s.slaveCursor = .idle ∨ s.slaveCursor = .slavePostCommand ∨ s.slaveCursor = .readNext ∨
        s.slaveCursor = .readDone →
      exec .sintp s =
        exec .sdsend { s1 with ownAddress := if s.inputs.stOwn2 = true then s.saddr1 else s.saddr0 }) ∧
    (s.inputs.stTreq = true → s.slaveCursor ≠ .idle → s.slaveCursor ≠ .slavePostCommand →
      s.slaveCursor ≠ .readNext → s.slaveCursor ≠ .readDone → exec .sintp s = exec .sdsend s1)

/-! ## ARP and the UDID (45_arp.md) -/

/-- R300 to R302: the packet has 17 bytes, each in its place; decoding inverts encoding, and encoding inverts decoding
on 17 bytes. -/
def Obligations.UdidPacketRoundTrips : Prop :=
  (∀ (u : Udid) (a : Byte), (udidEncode u a).length = 17 ∧ udidDecode (udidEncode u a) = (u, a)) ∧
  (∀ bytes : List Byte, bytes.length = 17 → udidEncode (udidDecode bytes).1 (udidDecode bytes).2 = bytes) ∧
  (∀ (u : Udid) (a : Byte), (udidEncode u a)[0]? = some u.cap ∧ (udidEncode u a)[1]? = some u.ver ∧
    (udidEncode u a)[16]? = some a ∧
    ∀ (k : Nat) (f : BitVec 16), (k, f) ∈ [(2, u.vendor), (4, u.device), (6, u.iface), (8, u.subvendor),
        (10, u.subdevice), (12, u.vspec.extractLsb' 16 16), (14, u.vspec.extractLsb' 0 16)] →
      (udidEncode u a)[k]? = some (f.extractLsb' 8 8) ∧ (udidEncode u a)[k + 1]? = some (f.extractLsb' 0 8))

/-- R303, R304: UDIDENC fills `TXBUF[0..16]` with the packet and writes nothing else; UDIDDEC takes it from `RXBUF[0..16]` into
the bank and returns the address byte. -/
def Obligations.UdidCommands : Prop :=
  ∀ s : State, s.inited = true →
    (∀ x : Byte, s.udidWritten.all = true →
      ∃ m : Memory, exec (.udidenc x) s = .next { s with txbuf := m, result := ⟨false, .ok, 0#8⟩ } ∧
        ∀ a, m.read a = if a < 17 then (udidEncode s.udid x)[a]? else s.txbuf.read a) ∧
    (∀ bytes : List Byte, bytes.length = 17 → (∀ k, k < 17 → s.rxbuf.read k = bytes[k]?) →
      exec .udiddec s = .next { s with
        udid := (udidDecode bytes).1,
        udidWritten := ⟨true, true, true, true, true, true, true, true⟩,
        result := ⟨false, .ok, (udidDecode bytes).2⟩ })

/-- R305 to R308, R311, R312: each of these helpers answers what its start command answers, at the parameters the state
carries; with the transport free, it opens that transaction. After reset the parameters are R312's defaults, which are the
spec's from general knowledge (log entry 16), and with them the directed commands are `(address << 1) | 1` and
`(address << 1) | 0`. -/
def Obligations.ArpHelpersAreStarts : Prop :=
  State.reset.arpParams = { defaultAddr := 0x61#7, prepare := 0x01#8, resetDevice := 0x02#8, getUdid := 0x03#8,
                            assignAddr := 0x04#8, directedGetUdid := 0x01#8, directedReset := 0x00#8 } ∧
  (∀ d : BusAddr, addrByte d false ||| 0x01#8 = addrByte d true ∧ addrByte d false ||| 0x00#8 = addrByte d false) ∧
  ∀ (s : State) (p : ArpParams) (d : BusAddr) (i j : Instr) (c : Byte), s.inited = true → p = s.arpParams →
    (i, j, c) ∈ [(.arpgug, .mblkrd p.defaultAddr p.getUdid, p.getUdid),
      (.arpgud d, .mblkrd p.defaultAddr (addrByte d false ||| p.directedGetUdid), addrByte d false ||| p.directedGetUdid),
      (.arprstg, .msendb p.defaultAddr p.resetDevice, p.resetDevice),
      (.arprstd d, .msendb p.defaultAddr (addrByte d false ||| p.directedReset), addrByte d false ||| p.directedReset),
      (.arpprep, .msendb p.defaultAddr p.prepare, p.prepare)] →
    ∃ t : State, exec i s = .next t ∧ exec j s = .next t ∧
      (s.inputs.periphBusy = false → t.flags.tip = true ∧ t.targetAddress = p.defaultAddr ∧ t.currentCommand = c)

/-- R309, R310: with the transport free, ARPASSIGN fills `TXBUF[0..16]` and is then a Block Write of 17 bytes to the
address and with the command byte that the state's ARP parameters give; ARPNOTIFY zeroes `TXBUF[0..1]` and is then a Host
Notify. -/
def Obligations.ArpAssignAndNotify : Prop :=
  ∀ (s : State) (x : Byte), s.inited = true → s.inputs.periphBusy = false →
    (s.udidWritten.all = true → ∃ (m : Memory) (t : State), exec (.arpassign x) s = .next t ∧
      exec (.mblkwr s.arpParams.defaultAddr s.arpParams.assignAddr 17#8) { s with txbuf := m } = .next t ∧ t.txbuf = m ∧
      ∀ a, m.read a = if a < 17 then (udidEncode s.udid x)[a]? else s.txbuf.read a) ∧
    (∃ (m : Memory) (t : State), exec (.arpnotify x) s = .next t ∧
      exec (.mnotify x) { s with txbuf := m } = .next t ∧ t.txbuf = m ∧
      ∀ a, m.read a = if a < 2 then some 0#8 else s.txbuf.read a)
end

