-- ==== Sys2Proof/Laws/Crc8.lean ====
section
/-! SUPPORT. The CRC step is reversible: the polynomial is odd, so bit 0 of a step's result says whether it was applied. -/

namespace Sys2Proof.Machine

theorem crc8_nil (seed : Byte) : crc8 seed [] = seed := rfl

theorem crc8_cons (seed b : Byte) (rest : List Byte) : crc8 seed (b :: rest) = crc8 (crcStep8 (seed ^^^ b)) rest := rfl

/-- The step taken back. -/
def crcBack1 (c : Byte) : Byte := if c.getLsbD 0 then (c ^^^ crcPoly) >>> 1 ||| 0x80#8 else c >>> 1

theorem crcBack1_step (c : Byte) : crcBack1 (crcStep1 c) = c := by
  revert c
  decide

theorem crcStep1_injective : Function.Injective crcStep1 := Function.LeftInverse.injective crcBack1_step

theorem crcStep8_injective : Function.Injective crcStep8 := by
  have h := crcStep1_injective
  exact h.comp (h.comp (h.comp (h.comp (h.comp (h.comp (h.comp h))))))

end Sys2Proof.Machine
end

