-- ==== Sys2Proof/Laws/Decode.lean ====
section
/-! SUPPORT. The fields of a command word, and what each format's reader accepts, said once. -/

namespace Sys2Proof

@[simp] theorem opcOf_commandWord (o a b c : Byte) : opcOf (commandWord o a b c) = o := by
  unfold opcOf commandWord; ext i hi; interval_cases i <;> simp

@[simp] theorem opaOf_commandWord (o a b c : Byte) : opaOf (commandWord o a b c) = a := by
  unfold opaOf commandWord; ext i hi; interval_cases i <;> simp

@[simp] theorem opbOf_commandWord (o a b c : Byte) : opbOf (commandWord o a b c) = b := by
  unfold opbOf commandWord; ext i hi; interval_cases i <;> simp

@[simp] theorem opcByteOf_commandWord (o a b c : Byte) : opcByteOf (commandWord o a b c) = c := by
  unfold opcByteOf commandWord; ext i hi; interval_cases i <;> simp

/-- A word is its four bytes (R80). -/
theorem commandWord_fields (w : Word) : commandWord (opcOf w) (opaOf w) (opbOf w) (opcByteOf w) = w := by
  unfold opcByteOf opbOf opaOf opcOf commandWord; ext i hi; interval_cases i <;> simp

theorem commandWord_inj {o a b c o' a' b' c' : Byte} :
    commandWord o a b c = commandWord o' a' b' c' ↔ o = o' ∧ a = a' ∧ b = b' ∧ c = c' := by
  refine ⟨fun h => ⟨?_, ?_, ?_, ?_⟩, by rintro ⟨rfl, rfl, rfl, rfl⟩; rfl⟩
  · simpa using congrArg opcOf h
  · simpa using congrArg opaOf h
  · simpa using congrArg opbOf h
  · simpa using congrArg opcByteOf h

/-- Masking works byte by byte. -/
theorem commandWord_and (o a b c o' a' b' c' : Byte) :
    commandWord o a b c &&& commandWord o' a' b' c' = commandWord (o &&& o') (a &&& a') (b &&& b') (c &&& c') := by
  conv_lhs => rw [← commandWord_fields (commandWord o a b c &&& commandWord o' a' b' c')]
  have h (i : Nat) (x y : Word) : (x &&& y).extractLsb' i 8 = x.extractLsb' i 8 &&& y.extractLsb' i 8 :=
    BitVec.extractLsb'_and
  have ho : ∀ x y : Word, opcOf (x &&& y) = opcOf x &&& opcOf y := h 0
  have ha : ∀ x y : Word, opaOf (x &&& y) = opaOf x &&& opaOf y := h 8
  have hb : ∀ x y : Word, opbOf (x &&& y) = opbOf x &&& opbOf y := h 16
  have hc : ∀ x y : Word, opcByteOf (x &&& y) = opcByteOf x &&& opcByteOf y := h 24
  simp [ho, ha, hb, hc]

theorem Format.mask_eq (f : Format) : f.mask = commandWord 0xFF#8 f.reservedA f.reservedB f.reservedC := by
  cases f <;> decide

theorem OpcodeRow.matchWord_eq (r : OpcodeRow) : r.matchWord = commandWord r.opc 0#8 0#8 0#8 := by
  unfold OpcodeRow.matchWord commandWord; ext i hi; interval_cases i <;> simp

/-- A word selects a row when its opcode is the row's and no reserved bit is set (R83, R85). -/
theorem OpcodeRow.selects_iff (r : OpcodeRow) (w : Word) : r.selects w = true ↔
    opcOf w = r.opc ∧ opaOf w &&& r.format.reservedA = 0#8 ∧ opbOf w &&& r.format.reservedB = 0#8 ∧
      opcByteOf w &&& r.format.reservedC = 0#8 := by
  conv_lhs => rw [← commandWord_fields w]
  rw [OpcodeRow.selects, beq_iff_eq, Format.mask_eq, OpcodeRow.matchWord_eq, commandWord_and, commandWord_inj]
  rw [show opcOf w &&& 0xFF#8 = opcOf w from BitVec.and_allOnes]

@[simp] theorem addrOperand_addrField (t : BusAddr) : addrOperand (addrField t) = some t := by
  revert t; decide

@[simp] theorem bitOperand_bitField (b : Bool) : bitOperand (bitField b) = some b := by
  cases b <;> decide

/-- The address byte a reader accepts is the encoder's. -/
theorem addrOperand_eq_some {a : Byte} {t : BusAddr} : addrOperand a = some t ↔ a = addrField t := by
  constructor
  · have : ∀ a : Byte, addrOperand a = none ∨ (addrOperand a).map addrField = some a := by decide
    intro h
    rcases this a with h' | h' <;> simp [h] at h'
    exact h'.symm
  · rintro rfl; simp

theorem bitOperand_eq_some {x : Byte} {b : Bool} : bitOperand x = some b ↔ x = bitField b := by
  constructor
  · revert x b; decide
  · rintro rfl; simp

/-- An address byte is accepted exactly when its reserved bit is 0 (R81). -/
theorem addrOperand_isSome (a : Byte) : (addrOperand a).isSome = true ↔ a &&& 0x80#8 = 0#8 := by
  revert a; decide

/-- A one-bit operand's byte is accepted exactly when its reserved bits are 0 (R81). -/
theorem bitOperand_isSome (x : Byte) : (bitOperand x).isSome = true ↔ x &&& 0xFE#8 = 0#8 := by
  revert x; decide

end Sys2Proof
end

