-- ==== Sys2Proof/Laws/Memory.lean ====
section
/-! SUPPORT. The buffer spaces: a read after a write, and the canonical form under every memory operation (R60 to R62). -/

namespace Sys2Proof.Machine

@[simp] theorem Memory.read_nil (i : Nat) : Memory.read [] i = none := rfl

/-- A read after a write: the written index gives the value, every other index what it gave before. -/
theorem Memory.read_write (m : Memory) (i j : Nat) (v : Byte) :
    (m.write i v).read j = if j = i then some v else m.read j := by
  induction m with
  | nil => simp [Memory.write, Memory.read]
  | cons c rest ih =>
    simp only [Memory.write]
    split
    · simp [Memory.read]
    · split
      · subst i; simp only [Memory.read]; split <;> rfl
      · simp only [Memory.read, ih]
        split
        · rw [if_neg (by omega)]
        · rfl

/-- A read after a write of consecutive bytes from `i`. -/
theorem Memory.read_writeBytes (m : Memory) (i j : Nat) (vs : List Byte) :
    (m.writeBytes i vs).read j = if i ≤ j ∧ j < i + vs.length then vs[j - i]? else m.read j := by
  induction vs generalizing m i with
  | nil => simp only [Memory.writeBytes, List.length_nil]; rw [if_neg (by omega)]
  | cons v vs ih =>
    simp only [Memory.writeBytes, ih, Memory.read_write, List.length_cons]
    by_cases h : j = i
    · subst h
      rw [if_neg (by omega), if_pos rfl, if_pos (by omega)]; simp
    · rw [if_neg h]
      by_cases h1 : i + 1 ≤ j ∧ j < i + 1 + vs.length
      · rw [if_pos h1, if_pos (by omega)]
        rw [show j - i = (j - (i + 1)) + 1 by omega]; simp
      · rw [if_neg h1, if_neg (by omega)]

/-- A write inside the space keeps the canonical form. -/
theorem Memory.wf_write {m : Memory} (h : m.wf) {i : Nat} (hi : i < bufLen) (v : Byte) : (m.write i v).wf := by
  induction m with
  | nil => simpa [Memory.write, Memory.wf] using hi
  | cons c rest ih =>
    obtain ⟨hp, hb⟩ := h
    rw [List.pairwise_cons] at hp
    have hrest := ih ⟨hp.2, fun x hx => hb x (List.mem_cons_of_mem _ hx)⟩
    have hc := hb c List.mem_cons_self
    simp only [Memory.write]
    split
    · refine ⟨List.pairwise_cons.2 ⟨fun x hx => ?_, List.pairwise_cons.2 hp⟩, fun x hx => ?_⟩
      · rcases List.mem_cons.1 hx with rfl | hx
        · assumption
        · exact Nat.lt_trans ‹_› (hp.1 x hx)
      · rcases List.mem_cons.1 hx with rfl | hx
        · exact hi
        · exact hb x hx
    · split
      · subst i
        refine ⟨List.pairwise_cons.2 ⟨fun x hx => hp.1 x hx, hp.2⟩, fun x hx => ?_⟩
        rcases List.mem_cons.1 hx with rfl | hx
        · exact hc
        · exact hb x (List.mem_cons_of_mem _ hx)
      · refine ⟨List.pairwise_cons.2 ⟨fun x hx => ?_, hrest.1⟩, fun x hx => ?_⟩
        · have key : ∀ (r : Memory), (∀ y ∈ r, c.1 < y.1) → ∀ y ∈ Memory.write r i v, c.1 < y.1 := by
            intro r
            induction r with
            | nil => intro _ y hy; simp only [Memory.write, List.mem_singleton] at hy; subst hy; simp; omega
            | cons d r ihr =>
              intro hr y hy
              simp only [Memory.write] at hy
              have hd := hr d List.mem_cons_self
              split at hy
              · rcases List.mem_cons.1 hy with rfl | hy
                · simp; omega
                · exact hr y hy
              · split at hy
                · rcases List.mem_cons.1 hy with rfl | hy
                  · simp; omega
                  · exact hr y (List.mem_cons_of_mem _ hy)
                · rcases List.mem_cons.1 hy with rfl | hy
                  · exact hd
                  · exact ihr (fun z hz => hr z (List.mem_cons_of_mem _ hz)) y hy
          exact key rest hp.1 x hx
        · rcases List.mem_cons.1 hx with rfl | hx
          · exact hc
          · exact hrest.2 x hx

/-- A write of consecutive bytes inside the space keeps the canonical form. -/
theorem Memory.wf_writeBytes {m : Memory} (h : m.wf) {i : Nat} (vs : List Byte) (hi : i + vs.length ≤ bufLen) :
    (m.writeBytes i vs).wf := by
  induction vs generalizing m i with
  | nil => exact h
  | cons v vs ih =>
    simp only [List.length_cons] at hi
    exact ih (Memory.wf_write h (by omega) v) (by omega)

/-- The write at an 8-bit index keeps the canonical form: the index is always inside the space (R62). -/
theorem Memory.wf_write_byte {m : Memory} (h : m.wf) (i v : Byte) : (m.write i.toNat v).wf :=
  Memory.wf_write h (by have := i.isLt; simp only [bufLen]; omega) v

/-- The memories of the state after reset have the canonical form. -/
theorem State.reset_wf : State.reset.txbuf.wf ∧ State.reset.rxbuf.wf := by decide

/-- A read of consecutive bytes succeeds with `bs` exactly when each byte reads as its byte of `bs`. -/
theorem Memory.readBytes_ok {m : Memory} {i n : Nat} {bs : List Byte} :
    m.readBytes i n = .ok bs ↔ bs.length = n ∧ ∀ k, k < n → m.read (i + k) = bs[k]? := by
  induction n generalizing i bs with
  | zero =>
    simp only [Memory.readBytes, Except.ok.injEq]
    constructor
    · rintro rfl; simp
    · rintro ⟨h, -⟩; exact (List.length_eq_zero_iff.1 h).symm
  | succ n ih =>
    simp only [Memory.readBytes]
    constructor
    · intro h
      split at h
      · cases h
      · rename_i v hv
        split at h
        · rename_i vs hvs
          cases h
          obtain ⟨hl, hk⟩ := ih.1 hvs
          refine ⟨by simp [hl], fun k hk' => ?_⟩
          cases k with
          | zero => simpa using hv
          | succ k => rw [show i + (k + 1) = i + 1 + k by omega, hk k (by omega)]; simp
        · cases h
    · rintro ⟨hl, hk⟩
      cases bs with
      | nil => simp at hl
      | cons b bs =>
        have h0 := hk 0 (by omega)
        simp only [Nat.add_zero, List.getElem?_cons_zero] at h0
        have hr : Memory.readBytes m (i + 1) n = .ok bs := ih.2 ⟨by simpa using hl, fun k hk' => by
          have := hk (k + 1) (by omega)
          rw [show i + 1 + k = i + (k + 1) by omega, this]; simp⟩
        simp [h0, hr]

/-- A read of consecutive bytes fails at an index of the range that reads as no value. -/
theorem Memory.readBytes_error {m : Memory} {i n j : Nat} (h : m.readBytes i n = .error j) :
    i ≤ j ∧ j < i + n ∧ m.read j = none := by
  induction n generalizing i with
  | zero => simp [Memory.readBytes] at h
  | succ n ih =>
    simp only [Memory.readBytes] at h
    split at h
    · cases h; exact ⟨by omega, by omega, ‹_›⟩
    · split at h
      · cases h
      · cases h
        obtain ⟨h1, h2, h3⟩ := ih ‹_›
        exact ⟨by omega, by omega, h3⟩

end Sys2Proof.Machine
end

