-- ==== Sys2Proof/Laws/State.lean ====
section
/-! SUPPORT. One lemma per field of State and named update: what the field is afterwards. -/

namespace Sys2Proof.Machine

variable (s : State)

/-! `State.emit` -/

@[simp] theorem State.emit_txSize (a : Action) : (s.emit a).txSize = s.txSize := rfl
@[simp] theorem State.emit_txIndex (a : Action) : (s.emit a).txIndex = s.txIndex := rfl
@[simp] theorem State.emit_rxSize (a : Action) : (s.emit a).rxSize = s.rxSize := rfl
@[simp] theorem State.emit_rxIndex (a : Action) : (s.emit a).rxIndex = s.rxIndex := rfl
@[simp] theorem State.emit_ownAddress (a : Action) : (s.emit a).ownAddress = s.ownAddress := rfl
@[simp] theorem State.emit_targetAddress (a : Action) : (s.emit a).targetAddress = s.targetAddress := rfl
@[simp] theorem State.emit_currentCommand (a : Action) : (s.emit a).currentCommand = s.currentCommand := rfl
@[simp] theorem State.emit_computedCrc (a : Action) : (s.emit a).computedCrc = s.computedCrc := rfl
@[simp] theorem State.emit_receivedCrc (a : Action) : (s.emit a).receivedCrc = s.receivedCrc := rfl
@[simp] theorem State.emit_masterCursor (a : Action) : (s.emit a).masterCursor = s.masterCursor := rfl
@[simp] theorem State.emit_slaveCursor (a : Action) : (s.emit a).slaveCursor = s.slaveCursor := rfl
@[simp] theorem State.emit_flags (a : Action) : (s.emit a).flags = s.flags := rfl
@[simp] theorem State.emit_udid (a : Action) : (s.emit a).udid = s.udid := rfl
@[simp] theorem State.emit_udidBound (a : Action) : (s.emit a).udidBound = s.udidBound := rfl
@[simp] theorem State.emit_saddr0 (a : Action) : (s.emit a).saddr0 = s.saddr0 := rfl
@[simp] theorem State.emit_saddr1 (a : Action) : (s.emit a).saddr1 = s.saddr1 := rfl
@[simp] theorem State.emit_inited (a : Action) : (s.emit a).inited = s.inited := rfl
@[simp] theorem State.emit_result (a : Action) : (s.emit a).result = s.result := rfl
@[simp] theorem State.emit_txbuf (a : Action) : (s.emit a).txbuf = s.txbuf := rfl
@[simp] theorem State.emit_rxbuf (a : Action) : (s.emit a).rxbuf = s.rxbuf := rfl
@[simp] theorem State.emit_udidWritten (a : Action) : (s.emit a).udidWritten = s.udidWritten := rfl
@[simp] theorem State.emit_trace (a : Action) : (s.emit a).trace = s.trace ++ [a] := rfl
@[simp] theorem State.emit_inputs (a : Action) : (s.emit a).inputs = s.inputs := rfl
@[simp] theorem State.emit_schedule (a : Action) : (s.emit a).schedule = s.schedule := rfl
@[simp] theorem State.emit_reply (a : Action) : (s.emit a).reply = s.reply := rfl
@[simp] theorem State.emit_arpParams (a : Action) : (s.emit a).arpParams = s.arpParams := rfl
@[simp] theorem State.emit_freeDraws (a : Action) : (s.emit a).freeDraws = s.freeDraws := rfl

/-! `State.fold` -/

@[simp] theorem State.fold_txSize (b : Byte) : (s.fold b).txSize = s.txSize := rfl
@[simp] theorem State.fold_txIndex (b : Byte) : (s.fold b).txIndex = s.txIndex := rfl
@[simp] theorem State.fold_rxSize (b : Byte) : (s.fold b).rxSize = s.rxSize := rfl
@[simp] theorem State.fold_rxIndex (b : Byte) : (s.fold b).rxIndex = s.rxIndex := rfl
@[simp] theorem State.fold_ownAddress (b : Byte) : (s.fold b).ownAddress = s.ownAddress := rfl
@[simp] theorem State.fold_targetAddress (b : Byte) : (s.fold b).targetAddress = s.targetAddress := rfl
@[simp] theorem State.fold_currentCommand (b : Byte) : (s.fold b).currentCommand = s.currentCommand := rfl
@[simp] theorem State.fold_computedCrc (b : Byte) :
    (s.fold b).computedCrc = if s.flags.pec then crc8 s.computedCrc [b] else s.computedCrc := rfl
@[simp] theorem State.fold_receivedCrc (b : Byte) : (s.fold b).receivedCrc = s.receivedCrc := rfl
@[simp] theorem State.fold_masterCursor (b : Byte) : (s.fold b).masterCursor = s.masterCursor := rfl
@[simp] theorem State.fold_slaveCursor (b : Byte) : (s.fold b).slaveCursor = s.slaveCursor := rfl
@[simp] theorem State.fold_flags (b : Byte) : (s.fold b).flags = s.flags := rfl
@[simp] theorem State.fold_udid (b : Byte) : (s.fold b).udid = s.udid := rfl
@[simp] theorem State.fold_udidBound (b : Byte) : (s.fold b).udidBound = s.udidBound := rfl
@[simp] theorem State.fold_saddr0 (b : Byte) : (s.fold b).saddr0 = s.saddr0 := rfl
@[simp] theorem State.fold_saddr1 (b : Byte) : (s.fold b).saddr1 = s.saddr1 := rfl
@[simp] theorem State.fold_inited (b : Byte) : (s.fold b).inited = s.inited := rfl
@[simp] theorem State.fold_result (b : Byte) : (s.fold b).result = s.result := rfl
@[simp] theorem State.fold_txbuf (b : Byte) : (s.fold b).txbuf = s.txbuf := rfl
@[simp] theorem State.fold_rxbuf (b : Byte) : (s.fold b).rxbuf = s.rxbuf := rfl
@[simp] theorem State.fold_udidWritten (b : Byte) : (s.fold b).udidWritten = s.udidWritten := rfl
@[simp] theorem State.fold_trace (b : Byte) : (s.fold b).trace = s.trace := rfl
@[simp] theorem State.fold_inputs (b : Byte) : (s.fold b).inputs = s.inputs := rfl
@[simp] theorem State.fold_schedule (b : Byte) : (s.fold b).schedule = s.schedule := rfl
@[simp] theorem State.fold_reply (b : Byte) : (s.fold b).reply = s.reply := rfl
@[simp] theorem State.fold_arpParams (b : Byte) : (s.fold b).arpParams = s.arpParams := rfl
@[simp] theorem State.fold_freeDraws (b : Byte) : (s.fold b).freeDraws = s.freeDraws := rfl

/-! `State.setMaster` -/

@[simp] theorem State.setMaster_txSize (c : Cursor) : (s.setMaster c).txSize = s.txSize := rfl
@[simp] theorem State.setMaster_txIndex (c : Cursor) : (s.setMaster c).txIndex = s.txIndex := rfl
@[simp] theorem State.setMaster_rxSize (c : Cursor) : (s.setMaster c).rxSize = s.rxSize := rfl
@[simp] theorem State.setMaster_rxIndex (c : Cursor) : (s.setMaster c).rxIndex = s.rxIndex := rfl
@[simp] theorem State.setMaster_ownAddress (c : Cursor) : (s.setMaster c).ownAddress = s.ownAddress := rfl
@[simp] theorem State.setMaster_targetAddress (c : Cursor) : (s.setMaster c).targetAddress = s.targetAddress := rfl
@[simp] theorem State.setMaster_currentCommand (c : Cursor) : (s.setMaster c).currentCommand = s.currentCommand := rfl
@[simp] theorem State.setMaster_computedCrc (c : Cursor) : (s.setMaster c).computedCrc = s.computedCrc := rfl
@[simp] theorem State.setMaster_receivedCrc (c : Cursor) : (s.setMaster c).receivedCrc = s.receivedCrc := rfl
@[simp] theorem State.setMaster_masterCursor (c : Cursor) : (s.setMaster c).masterCursor = c := rfl
@[simp] theorem State.setMaster_slaveCursor (c : Cursor) : (s.setMaster c).slaveCursor = s.slaveCursor := rfl
@[simp] theorem State.setMaster_flags (c : Cursor) : (s.setMaster c).flags = s.flags := rfl
@[simp] theorem State.setMaster_udid (c : Cursor) : (s.setMaster c).udid = s.udid := rfl
@[simp] theorem State.setMaster_udidBound (c : Cursor) : (s.setMaster c).udidBound = s.udidBound := rfl
@[simp] theorem State.setMaster_saddr0 (c : Cursor) : (s.setMaster c).saddr0 = s.saddr0 := rfl
@[simp] theorem State.setMaster_saddr1 (c : Cursor) : (s.setMaster c).saddr1 = s.saddr1 := rfl
@[simp] theorem State.setMaster_inited (c : Cursor) : (s.setMaster c).inited = s.inited := rfl
@[simp] theorem State.setMaster_result (c : Cursor) : (s.setMaster c).result = s.result := rfl
@[simp] theorem State.setMaster_txbuf (c : Cursor) : (s.setMaster c).txbuf = s.txbuf := rfl
@[simp] theorem State.setMaster_rxbuf (c : Cursor) : (s.setMaster c).rxbuf = s.rxbuf := rfl
@[simp] theorem State.setMaster_udidWritten (c : Cursor) : (s.setMaster c).udidWritten = s.udidWritten := rfl
@[simp] theorem State.setMaster_trace (c : Cursor) : (s.setMaster c).trace = s.trace := rfl
@[simp] theorem State.setMaster_inputs (c : Cursor) : (s.setMaster c).inputs = s.inputs := rfl
@[simp] theorem State.setMaster_schedule (c : Cursor) : (s.setMaster c).schedule = s.schedule := rfl
@[simp] theorem State.setMaster_reply (c : Cursor) : (s.setMaster c).reply = s.reply := rfl
@[simp] theorem State.setMaster_arpParams (c : Cursor) : (s.setMaster c).arpParams = s.arpParams := rfl
@[simp] theorem State.setMaster_freeDraws (c : Cursor) : (s.setMaster c).freeDraws = s.freeDraws := rfl

/-! `State.setSlave` -/

@[simp] theorem State.setSlave_txSize (c : Cursor) : (s.setSlave c).txSize = s.txSize := rfl
@[simp] theorem State.setSlave_txIndex (c : Cursor) : (s.setSlave c).txIndex = s.txIndex := rfl
@[simp] theorem State.setSlave_rxSize (c : Cursor) : (s.setSlave c).rxSize = s.rxSize := rfl
@[simp] theorem State.setSlave_rxIndex (c : Cursor) : (s.setSlave c).rxIndex = s.rxIndex := rfl
@[simp] theorem State.setSlave_ownAddress (c : Cursor) : (s.setSlave c).ownAddress = s.ownAddress := rfl
@[simp] theorem State.setSlave_targetAddress (c : Cursor) : (s.setSlave c).targetAddress = s.targetAddress := rfl
@[simp] theorem State.setSlave_currentCommand (c : Cursor) : (s.setSlave c).currentCommand = s.currentCommand := rfl
@[simp] theorem State.setSlave_computedCrc (c : Cursor) : (s.setSlave c).computedCrc = s.computedCrc := rfl
@[simp] theorem State.setSlave_receivedCrc (c : Cursor) : (s.setSlave c).receivedCrc = s.receivedCrc := rfl
@[simp] theorem State.setSlave_masterCursor (c : Cursor) : (s.setSlave c).masterCursor = s.masterCursor := rfl
@[simp] theorem State.setSlave_slaveCursor (c : Cursor) : (s.setSlave c).slaveCursor = c := rfl
@[simp] theorem State.setSlave_flags (c : Cursor) : (s.setSlave c).flags = s.flags := rfl
@[simp] theorem State.setSlave_udid (c : Cursor) : (s.setSlave c).udid = s.udid := rfl
@[simp] theorem State.setSlave_udidBound (c : Cursor) : (s.setSlave c).udidBound = s.udidBound := rfl
@[simp] theorem State.setSlave_saddr0 (c : Cursor) : (s.setSlave c).saddr0 = s.saddr0 := rfl
@[simp] theorem State.setSlave_saddr1 (c : Cursor) : (s.setSlave c).saddr1 = s.saddr1 := rfl
@[simp] theorem State.setSlave_inited (c : Cursor) : (s.setSlave c).inited = s.inited := rfl
@[simp] theorem State.setSlave_result (c : Cursor) : (s.setSlave c).result = s.result := rfl
@[simp] theorem State.setSlave_txbuf (c : Cursor) : (s.setSlave c).txbuf = s.txbuf := rfl
@[simp] theorem State.setSlave_rxbuf (c : Cursor) : (s.setSlave c).rxbuf = s.rxbuf := rfl
@[simp] theorem State.setSlave_udidWritten (c : Cursor) : (s.setSlave c).udidWritten = s.udidWritten := rfl
@[simp] theorem State.setSlave_trace (c : Cursor) : (s.setSlave c).trace = s.trace := rfl
@[simp] theorem State.setSlave_inputs (c : Cursor) : (s.setSlave c).inputs = s.inputs := rfl
@[simp] theorem State.setSlave_schedule (c : Cursor) : (s.setSlave c).schedule = s.schedule := rfl
@[simp] theorem State.setSlave_reply (c : Cursor) : (s.setSlave c).reply = s.reply := rfl
@[simp] theorem State.setSlave_arpParams (c : Cursor) : (s.setSlave c).arpParams = s.arpParams := rfl
@[simp] theorem State.setSlave_freeDraws (c : Cursor) : (s.setSlave c).freeDraws = s.freeDraws := rfl

/-! `State.setTip` -/

@[simp] theorem State.setTip_txSize (v : Bool) : (s.setTip v).txSize = s.txSize := rfl
@[simp] theorem State.setTip_txIndex (v : Bool) : (s.setTip v).txIndex = s.txIndex := rfl
@[simp] theorem State.setTip_rxSize (v : Bool) : (s.setTip v).rxSize = s.rxSize := rfl
@[simp] theorem State.setTip_rxIndex (v : Bool) : (s.setTip v).rxIndex = s.rxIndex := rfl
@[simp] theorem State.setTip_ownAddress (v : Bool) : (s.setTip v).ownAddress = s.ownAddress := rfl
@[simp] theorem State.setTip_targetAddress (v : Bool) : (s.setTip v).targetAddress = s.targetAddress := rfl
@[simp] theorem State.setTip_currentCommand (v : Bool) : (s.setTip v).currentCommand = s.currentCommand := rfl
@[simp] theorem State.setTip_computedCrc (v : Bool) : (s.setTip v).computedCrc = s.computedCrc := rfl
@[simp] theorem State.setTip_receivedCrc (v : Bool) : (s.setTip v).receivedCrc = s.receivedCrc := rfl
@[simp] theorem State.setTip_masterCursor (v : Bool) : (s.setTip v).masterCursor = s.masterCursor := rfl
@[simp] theorem State.setTip_slaveCursor (v : Bool) : (s.setTip v).slaveCursor = s.slaveCursor := rfl
@[simp] theorem State.setTip_flags (v : Bool) : (s.setTip v).flags = { s.flags with tip := v } := rfl
@[simp] theorem State.setTip_udid (v : Bool) : (s.setTip v).udid = s.udid := rfl
@[simp] theorem State.setTip_udidBound (v : Bool) : (s.setTip v).udidBound = s.udidBound := rfl
@[simp] theorem State.setTip_saddr0 (v : Bool) : (s.setTip v).saddr0 = s.saddr0 := rfl
@[simp] theorem State.setTip_saddr1 (v : Bool) : (s.setTip v).saddr1 = s.saddr1 := rfl
@[simp] theorem State.setTip_inited (v : Bool) : (s.setTip v).inited = s.inited := rfl
@[simp] theorem State.setTip_result (v : Bool) : (s.setTip v).result = s.result := rfl
@[simp] theorem State.setTip_txbuf (v : Bool) : (s.setTip v).txbuf = s.txbuf := rfl
@[simp] theorem State.setTip_rxbuf (v : Bool) : (s.setTip v).rxbuf = s.rxbuf := rfl
@[simp] theorem State.setTip_udidWritten (v : Bool) : (s.setTip v).udidWritten = s.udidWritten := rfl
@[simp] theorem State.setTip_trace (v : Bool) : (s.setTip v).trace = s.trace := rfl
@[simp] theorem State.setTip_inputs (v : Bool) : (s.setTip v).inputs = s.inputs := rfl
@[simp] theorem State.setTip_schedule (v : Bool) : (s.setTip v).schedule = s.schedule := rfl
@[simp] theorem State.setTip_reply (v : Bool) : (s.setTip v).reply = s.reply := rfl
@[simp] theorem State.setTip_arpParams (v : Bool) : (s.setTip v).arpParams = s.arpParams := rfl
@[simp] theorem State.setTip_freeDraws (v : Bool) : (s.setTip v).freeDraws = s.freeDraws := rfl

/-! `State.storeRx` -/

@[simp] theorem State.storeRx_txSize (b : Byte) : (s.storeRx b).txSize = s.txSize := rfl
@[simp] theorem State.storeRx_txIndex (b : Byte) : (s.storeRx b).txIndex = s.txIndex := rfl
@[simp] theorem State.storeRx_rxSize (b : Byte) : (s.storeRx b).rxSize = s.rxSize := rfl
@[simp] theorem State.storeRx_rxIndex (b : Byte) : (s.storeRx b).rxIndex = s.rxIndex + 1#8 := rfl
@[simp] theorem State.storeRx_ownAddress (b : Byte) : (s.storeRx b).ownAddress = s.ownAddress := rfl
@[simp] theorem State.storeRx_targetAddress (b : Byte) : (s.storeRx b).targetAddress = s.targetAddress := rfl
@[simp] theorem State.storeRx_currentCommand (b : Byte) : (s.storeRx b).currentCommand = s.currentCommand := rfl
@[simp] theorem State.storeRx_computedCrc (b : Byte) : (s.storeRx b).computedCrc = s.computedCrc := rfl
@[simp] theorem State.storeRx_receivedCrc (b : Byte) : (s.storeRx b).receivedCrc = s.receivedCrc := rfl
@[simp] theorem State.storeRx_masterCursor (b : Byte) : (s.storeRx b).masterCursor = s.masterCursor := rfl
@[simp] theorem State.storeRx_slaveCursor (b : Byte) : (s.storeRx b).slaveCursor = s.slaveCursor := rfl
@[simp] theorem State.storeRx_flags (b : Byte) : (s.storeRx b).flags = s.flags := rfl
@[simp] theorem State.storeRx_udid (b : Byte) : (s.storeRx b).udid = s.udid := rfl
@[simp] theorem State.storeRx_udidBound (b : Byte) : (s.storeRx b).udidBound = s.udidBound := rfl
@[simp] theorem State.storeRx_saddr0 (b : Byte) : (s.storeRx b).saddr0 = s.saddr0 := rfl
@[simp] theorem State.storeRx_saddr1 (b : Byte) : (s.storeRx b).saddr1 = s.saddr1 := rfl
@[simp] theorem State.storeRx_inited (b : Byte) : (s.storeRx b).inited = s.inited := rfl
@[simp] theorem State.storeRx_result (b : Byte) : (s.storeRx b).result = s.result := rfl
@[simp] theorem State.storeRx_txbuf (b : Byte) : (s.storeRx b).txbuf = s.txbuf := rfl
@[simp] theorem State.storeRx_rxbuf (b : Byte) : (s.storeRx b).rxbuf = s.rxbuf.write s.rxIndex.toNat b := rfl
@[simp] theorem State.storeRx_udidWritten (b : Byte) : (s.storeRx b).udidWritten = s.udidWritten := rfl
@[simp] theorem State.storeRx_trace (b : Byte) : (s.storeRx b).trace = s.trace := rfl
@[simp] theorem State.storeRx_inputs (b : Byte) : (s.storeRx b).inputs = s.inputs := rfl
@[simp] theorem State.storeRx_schedule (b : Byte) : (s.storeRx b).schedule = s.schedule := rfl
@[simp] theorem State.storeRx_reply (b : Byte) : (s.storeRx b).reply = s.reply := rfl
@[simp] theorem State.storeRx_arpParams (b : Byte) : (s.storeRx b).arpParams = s.arpParams := rfl
@[simp] theorem State.storeRx_freeDraws (b : Byte) : (s.storeRx b).freeDraws = s.freeDraws := rfl

/-! `State.setResult` -/

@[simp] theorem State.setResult_txSize (r : Result) : (s.setResult r).txSize = s.txSize := rfl
@[simp] theorem State.setResult_txIndex (r : Result) : (s.setResult r).txIndex = s.txIndex := rfl
@[simp] theorem State.setResult_rxSize (r : Result) : (s.setResult r).rxSize = s.rxSize := rfl
@[simp] theorem State.setResult_rxIndex (r : Result) : (s.setResult r).rxIndex = s.rxIndex := rfl
@[simp] theorem State.setResult_ownAddress (r : Result) : (s.setResult r).ownAddress = s.ownAddress := rfl
@[simp] theorem State.setResult_targetAddress (r : Result) : (s.setResult r).targetAddress = s.targetAddress := rfl
@[simp] theorem State.setResult_currentCommand (r : Result) : (s.setResult r).currentCommand = s.currentCommand := rfl
@[simp] theorem State.setResult_computedCrc (r : Result) : (s.setResult r).computedCrc = s.computedCrc := rfl
@[simp] theorem State.setResult_receivedCrc (r : Result) : (s.setResult r).receivedCrc = s.receivedCrc := rfl
@[simp] theorem State.setResult_masterCursor (r : Result) : (s.setResult r).masterCursor = s.masterCursor := rfl
@[simp] theorem State.setResult_slaveCursor (r : Result) : (s.setResult r).slaveCursor = s.slaveCursor := rfl
@[simp] theorem State.setResult_flags (r : Result) : (s.setResult r).flags = s.flags := rfl
@[simp] theorem State.setResult_udid (r : Result) : (s.setResult r).udid = s.udid := rfl
@[simp] theorem State.setResult_udidBound (r : Result) : (s.setResult r).udidBound = s.udidBound := rfl
@[simp] theorem State.setResult_saddr0 (r : Result) : (s.setResult r).saddr0 = s.saddr0 := rfl
@[simp] theorem State.setResult_saddr1 (r : Result) : (s.setResult r).saddr1 = s.saddr1 := rfl
@[simp] theorem State.setResult_inited (r : Result) : (s.setResult r).inited = s.inited := rfl
@[simp] theorem State.setResult_result (r : Result) : (s.setResult r).result = r := rfl
@[simp] theorem State.setResult_txbuf (r : Result) : (s.setResult r).txbuf = s.txbuf := rfl
@[simp] theorem State.setResult_rxbuf (r : Result) : (s.setResult r).rxbuf = s.rxbuf := rfl
@[simp] theorem State.setResult_udidWritten (r : Result) : (s.setResult r).udidWritten = s.udidWritten := rfl
@[simp] theorem State.setResult_trace (r : Result) : (s.setResult r).trace = s.trace := rfl
@[simp] theorem State.setResult_inputs (r : Result) : (s.setResult r).inputs = s.inputs := rfl
@[simp] theorem State.setResult_schedule (r : Result) : (s.setResult r).schedule = s.schedule := rfl
@[simp] theorem State.setResult_reply (r : Result) : (s.setResult r).reply = s.reply := rfl
@[simp] theorem State.setResult_arpParams (r : Result) : (s.setResult r).arpParams = s.arpParams := rfl
@[simp] theorem State.setResult_freeDraws (r : Result) : (s.setResult r).freeDraws = s.freeDraws := rfl

/-! `State.captureOwn` -/

@[simp] theorem State.captureOwn_txSize : (s.captureOwn).txSize = s.txSize := rfl
@[simp] theorem State.captureOwn_txIndex : (s.captureOwn).txIndex = s.txIndex := rfl
@[simp] theorem State.captureOwn_rxSize : (s.captureOwn).rxSize = s.rxSize := rfl
@[simp] theorem State.captureOwn_rxIndex : (s.captureOwn).rxIndex = s.rxIndex := rfl
@[simp] theorem State.captureOwn_ownAddress :
    (s.captureOwn).ownAddress = if s.inputs.stOwn2 then s.saddr1 else s.saddr0 := rfl
@[simp] theorem State.captureOwn_targetAddress : (s.captureOwn).targetAddress = s.targetAddress := rfl
@[simp] theorem State.captureOwn_currentCommand : (s.captureOwn).currentCommand = s.currentCommand := rfl
@[simp] theorem State.captureOwn_computedCrc : (s.captureOwn).computedCrc = s.computedCrc := rfl
@[simp] theorem State.captureOwn_receivedCrc : (s.captureOwn).receivedCrc = s.receivedCrc := rfl
@[simp] theorem State.captureOwn_masterCursor : (s.captureOwn).masterCursor = s.masterCursor := rfl
@[simp] theorem State.captureOwn_slaveCursor : (s.captureOwn).slaveCursor = s.slaveCursor := rfl
@[simp] theorem State.captureOwn_flags : (s.captureOwn).flags = s.flags := rfl
@[simp] theorem State.captureOwn_udid : (s.captureOwn).udid = s.udid := rfl
@[simp] theorem State.captureOwn_udidBound : (s.captureOwn).udidBound = s.udidBound := rfl
@[simp] theorem State.captureOwn_saddr0 : (s.captureOwn).saddr0 = s.saddr0 := rfl
@[simp] theorem State.captureOwn_saddr1 : (s.captureOwn).saddr1 = s.saddr1 := rfl
@[simp] theorem State.captureOwn_inited : (s.captureOwn).inited = s.inited := rfl
@[simp] theorem State.captureOwn_result : (s.captureOwn).result = s.result := rfl
@[simp] theorem State.captureOwn_txbuf : (s.captureOwn).txbuf = s.txbuf := rfl
@[simp] theorem State.captureOwn_rxbuf : (s.captureOwn).rxbuf = s.rxbuf := rfl
@[simp] theorem State.captureOwn_udidWritten : (s.captureOwn).udidWritten = s.udidWritten := rfl
@[simp] theorem State.captureOwn_trace : (s.captureOwn).trace = s.trace := rfl
@[simp] theorem State.captureOwn_inputs : (s.captureOwn).inputs = s.inputs := rfl
@[simp] theorem State.captureOwn_schedule : (s.captureOwn).schedule = s.schedule := rfl
@[simp] theorem State.captureOwn_reply : (s.captureOwn).reply = s.reply := rfl
@[simp] theorem State.captureOwn_arpParams : (s.captureOwn).arpParams = s.arpParams := rfl
@[simp] theorem State.captureOwn_freeDraws : (s.captureOwn).freeDraws = s.freeDraws := rfl

/-! `State.seedSlave` -/

@[simp] theorem State.seedSlave_txSize (b : Byte) : (s.seedSlave b).txSize = s.txSize := rfl
@[simp] theorem State.seedSlave_txIndex (b : Byte) : (s.seedSlave b).txIndex = s.txIndex := rfl
@[simp] theorem State.seedSlave_rxSize (b : Byte) : (s.seedSlave b).rxSize = s.rxSize := rfl
@[simp] theorem State.seedSlave_rxIndex (b : Byte) : (s.seedSlave b).rxIndex = s.rxIndex := rfl
@[simp] theorem State.seedSlave_ownAddress (b : Byte) : (s.seedSlave b).ownAddress = s.ownAddress := rfl
@[simp] theorem State.seedSlave_targetAddress (b : Byte) : (s.seedSlave b).targetAddress = s.targetAddress := rfl
@[simp] theorem State.seedSlave_currentCommand (b : Byte) : (s.seedSlave b).currentCommand = s.currentCommand := rfl
@[simp] theorem State.seedSlave_computedCrc (b : Byte) :
    (s.seedSlave b).computedCrc = if s.flags.pec then crc8 (crc8 0#8 [addrByte s.ownAddress false]) [b] else s.computedCrc := rfl
@[simp] theorem State.seedSlave_receivedCrc (b : Byte) : (s.seedSlave b).receivedCrc = s.receivedCrc := rfl
@[simp] theorem State.seedSlave_masterCursor (b : Byte) : (s.seedSlave b).masterCursor = s.masterCursor := rfl
@[simp] theorem State.seedSlave_slaveCursor (b : Byte) : (s.seedSlave b).slaveCursor = s.slaveCursor := rfl
@[simp] theorem State.seedSlave_flags (b : Byte) : (s.seedSlave b).flags = s.flags := rfl
@[simp] theorem State.seedSlave_udid (b : Byte) : (s.seedSlave b).udid = s.udid := rfl
@[simp] theorem State.seedSlave_udidBound (b : Byte) : (s.seedSlave b).udidBound = s.udidBound := rfl
@[simp] theorem State.seedSlave_saddr0 (b : Byte) : (s.seedSlave b).saddr0 = s.saddr0 := rfl
@[simp] theorem State.seedSlave_saddr1 (b : Byte) : (s.seedSlave b).saddr1 = s.saddr1 := rfl
@[simp] theorem State.seedSlave_inited (b : Byte) : (s.seedSlave b).inited = s.inited := rfl
@[simp] theorem State.seedSlave_result (b : Byte) : (s.seedSlave b).result = s.result := rfl
@[simp] theorem State.seedSlave_txbuf (b : Byte) : (s.seedSlave b).txbuf = s.txbuf := rfl
@[simp] theorem State.seedSlave_rxbuf (b : Byte) : (s.seedSlave b).rxbuf = s.rxbuf := rfl
@[simp] theorem State.seedSlave_udidWritten (b : Byte) : (s.seedSlave b).udidWritten = s.udidWritten := rfl
@[simp] theorem State.seedSlave_trace (b : Byte) : (s.seedSlave b).trace = s.trace := rfl
@[simp] theorem State.seedSlave_inputs (b : Byte) : (s.seedSlave b).inputs = s.inputs := rfl
@[simp] theorem State.seedSlave_schedule (b : Byte) : (s.seedSlave b).schedule = s.schedule := rfl
@[simp] theorem State.seedSlave_reply (b : Byte) : (s.seedSlave b).reply = s.reply := rfl
@[simp] theorem State.seedSlave_arpParams (b : Byte) : (s.seedSlave b).arpParams = s.arpParams := rfl
@[simp] theorem State.seedSlave_freeDraws (b : Byte) : (s.seedSlave b).freeDraws = s.freeDraws := rfl

/-! `State.recordStart` -/

@[simp] theorem State.recordStart_txSize (r : StartRow) : (s.recordStart r).txSize = r.txSize := rfl
@[simp] theorem State.recordStart_txIndex (r : StartRow) : (s.recordStart r).txIndex = r.txIndex := rfl
@[simp] theorem State.recordStart_rxSize (r : StartRow) : (s.recordStart r).rxSize = r.rxSize := rfl
@[simp] theorem State.recordStart_rxIndex (r : StartRow) : (s.recordStart r).rxIndex = 0#8 := rfl
@[simp] theorem State.recordStart_ownAddress (r : StartRow) : (s.recordStart r).ownAddress = s.ownAddress := rfl
@[simp] theorem State.recordStart_targetAddress (r : StartRow) : (s.recordStart r).targetAddress = r.target := rfl
@[simp] theorem State.recordStart_currentCommand (r : StartRow) :
    (s.recordStart r).currentCommand = r.cmd.getD s.currentCommand := rfl
@[simp] theorem State.recordStart_computedCrc (r : StartRow) : (s.recordStart r).computedCrc = 0#8 := rfl
@[simp] theorem State.recordStart_receivedCrc (r : StartRow) : (s.recordStart r).receivedCrc = 0#8 := rfl
@[simp] theorem State.recordStart_masterCursor (r : StartRow) : (s.recordStart r).masterCursor = s.masterCursor := rfl
@[simp] theorem State.recordStart_slaveCursor (r : StartRow) : (s.recordStart r).slaveCursor = s.slaveCursor := rfl
@[simp] theorem State.recordStart_flags (r : StartRow) :
    (s.recordStart r).flags = { s.flags with blk := r.blk, pc := r.pc, raw := r.raw, pec := s.flags.pec && !r.pecOff } := rfl
@[simp] theorem State.recordStart_udid (r : StartRow) : (s.recordStart r).udid = s.udid := rfl
@[simp] theorem State.recordStart_udidBound (r : StartRow) : (s.recordStart r).udidBound = s.udidBound := rfl
@[simp] theorem State.recordStart_saddr0 (r : StartRow) : (s.recordStart r).saddr0 = s.saddr0 := rfl
@[simp] theorem State.recordStart_saddr1 (r : StartRow) : (s.recordStart r).saddr1 = s.saddr1 := rfl
@[simp] theorem State.recordStart_inited (r : StartRow) : (s.recordStart r).inited = s.inited := rfl
@[simp] theorem State.recordStart_result (r : StartRow) : (s.recordStart r).result = s.result := rfl
@[simp] theorem State.recordStart_txbuf (r : StartRow) : (s.recordStart r).txbuf = s.txbuf := rfl
@[simp] theorem State.recordStart_rxbuf (r : StartRow) : (s.recordStart r).rxbuf = s.rxbuf := rfl
@[simp] theorem State.recordStart_udidWritten (r : StartRow) : (s.recordStart r).udidWritten = s.udidWritten := rfl
@[simp] theorem State.recordStart_trace (r : StartRow) : (s.recordStart r).trace = s.trace := rfl
@[simp] theorem State.recordStart_inputs (r : StartRow) : (s.recordStart r).inputs = s.inputs := rfl
@[simp] theorem State.recordStart_schedule (r : StartRow) : (s.recordStart r).schedule = s.schedule := rfl
@[simp] theorem State.recordStart_reply (r : StartRow) : (s.recordStart r).reply = s.reply := rfl
@[simp] theorem State.recordStart_arpParams (r : StartRow) : (s.recordStart r).arpParams = s.arpParams := rfl
@[simp] theorem State.recordStart_freeDraws (r : StartRow) : (s.recordStart r).freeDraws = s.freeDraws := rfl

/-! `State.enterStart` -/

@[simp] theorem State.enterStart_txSize (r : StartRow) : (s.enterStart r).txSize = s.txSize := rfl
@[simp] theorem State.enterStart_txIndex (r : StartRow) : (s.enterStart r).txIndex = s.txIndex := rfl
@[simp] theorem State.enterStart_rxSize (r : StartRow) : (s.enterStart r).rxSize = s.rxSize := rfl
@[simp] theorem State.enterStart_rxIndex (r : StartRow) : (s.enterStart r).rxIndex = s.rxIndex := rfl
@[simp] theorem State.enterStart_ownAddress (r : StartRow) : (s.enterStart r).ownAddress = s.ownAddress := rfl
@[simp] theorem State.enterStart_targetAddress (r : StartRow) :
    (s.enterStart r).targetAddress = s.targetAddress := rfl
@[simp] theorem State.enterStart_currentCommand (r : StartRow) :
    (s.enterStart r).currentCommand = s.currentCommand := rfl
@[simp] theorem State.enterStart_computedCrc (r : StartRow) : (s.enterStart r).computedCrc = s.computedCrc := rfl
@[simp] theorem State.enterStart_receivedCrc (r : StartRow) : (s.enterStart r).receivedCrc = s.receivedCrc := rfl
@[simp] theorem State.enterStart_masterCursor (r : StartRow) :
    (s.enterStart r).masterCursor = r.entry s.flags.pec := rfl
@[simp] theorem State.enterStart_slaveCursor (r : StartRow) :
    (s.enterStart r).slaveCursor = if r.turn then turnaroundCursor else s.slaveCursor := rfl
@[simp] theorem State.enterStart_flags (r : StartRow) : (s.enterStart r).flags = { s.flags with tip := true } := rfl
@[simp] theorem State.enterStart_udid (r : StartRow) : (s.enterStart r).udid = s.udid := rfl
@[simp] theorem State.enterStart_udidBound (r : StartRow) : (s.enterStart r).udidBound = s.udidBound := rfl
@[simp] theorem State.enterStart_saddr0 (r : StartRow) : (s.enterStart r).saddr0 = s.saddr0 := rfl
@[simp] theorem State.enterStart_saddr1 (r : StartRow) : (s.enterStart r).saddr1 = s.saddr1 := rfl
@[simp] theorem State.enterStart_inited (r : StartRow) : (s.enterStart r).inited = s.inited := rfl
@[simp] theorem State.enterStart_result (r : StartRow) : (s.enterStart r).result = s.result := rfl
@[simp] theorem State.enterStart_txbuf (r : StartRow) : (s.enterStart r).txbuf = s.txbuf := rfl
@[simp] theorem State.enterStart_rxbuf (r : StartRow) : (s.enterStart r).rxbuf = s.rxbuf := rfl
@[simp] theorem State.enterStart_udidWritten (r : StartRow) : (s.enterStart r).udidWritten = s.udidWritten := rfl
@[simp] theorem State.enterStart_trace (r : StartRow) : (s.enterStart r).trace = s.trace := rfl
@[simp] theorem State.enterStart_inputs (r : StartRow) : (s.enterStart r).inputs = s.inputs := rfl
@[simp] theorem State.enterStart_schedule (r : StartRow) : (s.enterStart r).schedule = s.schedule := rfl
@[simp] theorem State.enterStart_reply (r : StartRow) : (s.enterStart r).reply = s.reply := rfl
@[simp] theorem State.enterStart_arpParams (r : StartRow) : (s.enterStart r).arpParams = s.arpParams := rfl
@[simp] theorem State.enterStart_freeDraws (r : StartRow) : (s.enterStart r).freeDraws = s.freeDraws := rfl

end Sys2Proof.Machine
end

