-- ==== Sys2Proof/Laws/Ops.lean ====
section
/-! SUPPORT. What each shared operation can do, said once: the ways a command ends, the guards, the reads of TXBUF, the start
procedure. -/

namespace Sys2Proof.Machine

/-- `return S, d` writes `result` and nothing else (R102). -/
@[simp] theorem finish_eq (s : State) (st : Status) (d : Byte) :
    finish s st d = .next { s with result := { err := false, status := st, data := d } } := rfl

/-- CmdErr writes `result` and nothing else (R322). -/
@[simp] theorem raiseCmdErr_eq (s : State) :
    raiseCmdErr s = .next { s with result := { err := true, status := .ok, data := 0#8 } } := rfl

@[simp] theorem whenInited_of_true {s : State} (h : s.inited = true) (o : Out) : whenInited s o = o := by
  simp [whenInited, h]

@[simp] theorem whenInited_of_false {s : State} (h : s.inited = false) (o : Out) : whenInited s o = raiseCmdErr s := by
  simp [whenInited, h]

/-- A guarded command that answers a next state either ran, or was rejected with CmdErr (R34). -/
theorem whenInited_next {s t : State} {o : Out} (h : whenInited s o = .next t) :
    (s.inited = true ∧ o = .next t) ∨
      (s.inited = false ∧ t = { s with result := { err := true, status := .ok, data := 0#8 } }) := by
  cases hi : s.inited with
  | true => exact .inl ⟨rfl, by simpa [hi] using h⟩
  | false => exact .inr ⟨rfl, by simpa [hi, eq_comm] using h⟩

/-- A guarded command stops only where the command itself does. -/
theorem whenInited_fault {s : State} {o : Out} {f : Fault} (h : whenInited s o = .fault f) :
    s.inited = true ∧ o = .fault f := by
  cases hi : s.inited with
  | true => exact ⟨rfl, by simpa [hi] using h⟩
  | false => simp [hi] at h

theorem withTxByte_of_some {s : State} {i : Nat} {b : Byte} (h : s.txbuf.read i = some b) (k : Byte → Out) :
    withTxByte s i k = k b := by simp [withTxByte, h]

theorem withTxByte_of_none {s : State} {i : Nat} (h : s.txbuf.read i = none) (k : Byte → Out) :
    withTxByte s i k = .fault (.unwrittenTxByte i) := by simp [withTxByte, h]

/-- A TXBUF read that answers a next state read a written byte (R69). -/
theorem withTxByte_next {s t : State} {i : Nat} {k : Byte → Out} (h : withTxByte s i k = .next t) :
    ∃ b, s.txbuf.read i = some b ∧ k b = .next t := by
  cases hb : s.txbuf.read i with
  | none => simp [withTxByte, hb] at h
  | some b => exact ⟨b, rfl, by simpa [withTxByte, hb] using h⟩

/-- A TXBUF read that stops found an unwritten byte, or the rest of the command stopped. -/
theorem withTxByte_fault {s : State} {i : Nat} {k : Byte → Out} {f : Fault} (h : withTxByte s i k = .fault f) :
    (s.txbuf.read i = none ∧ f = .unwrittenTxByte i) ∨ ∃ b, s.txbuf.read i = some b ∧ k b = .fault f := by
  cases hb : s.txbuf.read i with
  | none => exact .inl ⟨rfl, by simpa [withTxByte, hb, eq_comm] using h⟩
  | some b => exact .inr ⟨b, rfl, by simpa [withTxByte, hb] using h⟩

theorem withNextTx_of_some {s : State} {b : Byte} (h : s.txbuf.read s.txIndex.toNat = some b)
    (k : Byte → State → Out) : withNextTx s k = k b { s with txIndex := s.txIndex + 1#8 } := by
  simp [withNextTx, withTxByte, h]

/-- The counters' increment does not wrap below the size (R11). -/
theorem toNat_succ_of_lt {x y : Byte} (h : x < y) : (x + 1#8).toNat = x.toNat + 1 := by
  have := y.isLt; simp only [BitVec.lt_def] at h; simp [BitVec.toNat_add]; omega

/-- What a start command does before its row is used (R171, R172). -/
theorem startChecked_cases (s : State) (ok : Bool) (o : Out) :
    startChecked s ok o = (if s.inputs.periphBusy = true then .next { s with result := ⟨false, .peripheralBusy, 0#8⟩ }
      else if ok = true then o else .next { s with result := ⟨false, .dataSizeError, 0#8⟩ }) := rfl

theorem startChecked_of_free {s : State} (h : s.inputs.periphBusy = false) (o : Out) :
    startChecked s true o = o := by simp [startChecked, h]

theorem wordSizeOk_iff (n : Byte) : wordSizeOk n = true ↔ 1 ≤ n.toNat ∧ n.toNat ≤ 2 := by
  rw [wordSizeOk, Bool.and_eq_true, decide_eq_true_eq, decide_eq_true_eq]; rfl

theorem blockSizeOk_iff (n : Byte) : blockSizeOk n = true ↔ 1 ≤ n.toNat ∧ n.toNat ≤ 32 := by
  rw [blockSizeOk, Bool.and_eq_true, decide_eq_true_eq, decide_eq_true_eq]; rfl

theorem rawSizeOk_iff (n : Byte) : rawSizeOk n = true ↔ n ≠ 0#8 := by
  rw [ne_eq, ← BitVec.toNat_inj]; simp [rawSizeOk]; omega

theorem wordSizeOk_false (n : Byte) : wordSizeOk n = false ↔ n.toNat = 0 ∨ 2 < n.toNat := by
  rw [Bool.eq_false_iff, ne_eq, wordSizeOk_iff]; omega

theorem blockSizeOk_false (n : Byte) : blockSizeOk n = false ↔ n.toNat = 0 ∨ 32 < n.toNat := by
  rw [Bool.eq_false_iff, ne_eq, blockSizeOk_iff]; omega

theorem rawSizeOk_false (n : Byte) : rawSizeOk n = false ↔ n.toNat = 0 := by
  simp [rawSizeOk]

/-- Everything a start command writes and emits once its checks have passed (R173 to R177), as one record. -/
theorem arm_eq (s : State) (r : StartRow) :
    arm s r = .next { s with
      targetAddress := r.target, currentCommand := r.cmd.getD s.currentCommand, txSize := r.txSize,
      rxSize := r.rxSize, txIndex := r.txIndex, rxIndex := 0#8, receivedCrc := 0#8,
      computedCrc := if s.flags.pec && !r.pecOff then crc8 0#8 (addrByte r.target r.dir :: r.first.toList) else 0#8,
      masterCursor := r.entry (s.flags.pec && !r.pecOff),
      slaveCursor := if r.turn then turnaroundCursor else s.slaveCursor,
      flags := { s.flags with blk := r.blk, pc := r.pc, raw := r.raw, pec := s.flags.pec && !r.pecOff, tip := true },
      trace := s.trace ++ (.mAddr r.target r.dir :: (r.first.toList.map .mPut ++ [.mCtl (r.ctl (s.flags.pec && !r.pecOff))])),
      result := ⟨false, if s.inputs.busBusy then .busBusy else .ok, 0#8⟩ } := by
  simp only [arm, State.started, finish_eq]
  cases r.first <;> cases hp : (s.flags.pec && !r.pecOff) <;>
    simp [State.armFirst, State.enterStart, State.emit, State.fold, State.recordStart, hp, crc8]

end Sys2Proof.Machine
end

