-- ==== Sys2Proof/Laws/Ends.lean ====
section
/-! SUPPORT. `Ends P o`: if the outcome is a next state, it satisfies `P`. One rule per way a meaning is built, so that a
property of every next state is proved along the meaning's own shape. -/

namespace Sys2Proof.Machine

/-- Every next state of the outcome satisfies `P`. -/
def Ends (P : State → Prop) (o : Out) : Prop := ∀ t, o = .next t → P t

theorem ends_next {P : State → Prop} {t : State} (h : P t) : Ends P (.next t) := by
  intro u hu; cases hu; exact h

theorem ends_fault {P : State → Prop} (f : Fault) : Ends P (.fault f) := by
  intro u hu; cases hu

theorem ends_finish {P : State → Prop} {s : State} {st : Status} {d : Byte}
    (h : P (s.setResult { err := false, status := st, data := d })) : Ends P (finish s st d) := ends_next h

theorem ends_ite {P : State → Prop} {c : Prop} [Decidable c] {a b : Out} (ha : c → Ends P a) (hb : ¬c → Ends P b) :
    Ends P (if c then a else b) := by
  split
  · exact ha ‹_›
  · exact hb ‹_›

theorem ends_whenInited {P : State → Prop} {s : State} {o : Out} (h : s.inited = true → Ends P o)
    (he : s.inited = false → P { s with result := { err := true, status := .ok, data := 0#8 } }) :
    Ends P (whenInited s o) := by
  intro t ht
  rcases whenInited_next ht with ⟨hi, ho⟩ | ⟨hi, rfl⟩
  · exact h hi t ho
  · exact he hi

theorem ends_withTxByte {P : State → Prop} {s : State} {i : Nat} {k : Byte → Out}
    (h : ∀ b, s.txbuf.read i = some b → Ends P (k b)) : Ends P (withTxByte s i k) := by
  intro t ht
  obtain ⟨b, hb, hk⟩ := withTxByte_next ht
  exact h b hb t hk

theorem ends_withNextTx {P : State → Prop} {s : State} {k : Byte → State → Out}
    (h : ∀ b, s.txbuf.read s.txIndex.toNat = some b → Ends P (k b { s with txIndex := s.txIndex + 1#8 })) :
    Ends P (withNextTx s k) := ends_withTxByte h

theorem ends_startChecked {P : State → Prop} {s : State} {ok : Bool} {o : Out}
    (hr : ∀ st, P { s with result := { err := false, status := st, data := 0#8 } }) (ho : ok = true → Ends P o) :
    Ends P (startChecked s ok o) :=
  ends_ite (fun _ => ends_finish (hr _)) fun _ => ends_ite ho fun _ => ends_finish (hr _)

theorem ends_withUdidPacket {P : State → Prop} {s : State} {a : Byte} {k : State → Out}
    (h : s.udidWritten.all = true → Ends P (k { s with txbuf := s.txbuf.writeBytes 0 (udidEncode s.udid a) })) :
    Ends P (withUdidPacket s a k) :=
  ends_ite h fun _ => ends_fault _

end Sys2Proof.Machine
end

