-- ==== Sys2Proof/Laws/Engines.lean ====
section
/-! SUPPORT. What one MINTP and one SINTP or SDSEND can do to the state, said once, for proofs about every step. -/

namespace Sys2Proof.Machine

/-- What a command may do to the receive side (R22, R62): nothing, one byte stored below the size, or a size adopted. -/
abbrev RxMove (s t : State) (adopts : Prop) : Prop :=
  (t.rxbuf = s.rxbuf ∧ t.rxIndex = s.rxIndex ∧ t.rxSize = s.rxSize) ∨
  (s.rxIndex < s.rxSize ∧ t.rxIndex = s.rxIndex + 1#8 ∧ t.rxSize = s.rxSize ∧
    t.rxbuf = s.rxbuf.write s.rxIndex.toNat s.inputs.data) ∨
  (adopts ∧ t.rxbuf = s.rxbuf ∧ t.rxIndex = s.rxIndex ∧ t.rxSize = s.inputs.data)

/-- What a handler of the master engine may change, `s` before and `t` after. -/
structure MasterEffect (s t : State) : Prop where
  frame : t = { s with
    txIndex := t.txIndex, rxSize := t.rxSize, rxIndex := t.rxIndex, computedCrc := t.computedCrc,
    receivedCrc := t.receivedCrc, masterCursor := t.masterCursor, slaveCursor := t.slaveCursor,
    flags := { s.flags with tip := t.flags.tip }, rxbuf := t.rxbuf, trace := t.trace, result := t.result }
  tip : t.flags.tip = true → s.flags.tip = true
  tx : t.txIndex = s.txIndex ∨ (s.txIndex < s.txSize ∧ t.txIndex = s.txIndex + 1#8)
  rx : RxMove s t (s.masterCursor = .readBlockSize)
  slave : t.slaveCursor = s.slaveCursor ∨ (t.slaveCursor = turnaroundCursor ∧ t.masterCursor = .readFirst ∧
    s.masterCursor = .writeFinal ∧ s.flags.pc = true)
  handled : s.masterCursor.masterHandled = true →
    t.masterCursor.masterHandled = true ∧ t.result.status ≠ .masterError
  crc : s.flags.pec = false → t.computedCrc = s.computedCrc ∧ t.receivedCrc = s.receivedCrc
  trace : ∃ acts : List Action, t.trace = s.trace ++ acts ∧ acts.length ≤ 3

/-- What SINTP and SDSEND may change, emitting at most `n` actions. -/
structure SlaveEffect (n : Nat) (s t : State) : Prop where
  frame : t = { s with
    txIndex := t.txIndex, rxSize := t.rxSize, rxIndex := t.rxIndex, ownAddress := t.ownAddress,
    currentCommand := t.currentCommand, computedCrc := t.computedCrc, receivedCrc := t.receivedCrc,
    slaveCursor := t.slaveCursor, flags := { s.flags with tip := t.flags.tip }, rxbuf := t.rxbuf, trace := t.trace,
    result := t.result, freeDraws := t.freeDraws }
  tx : t.txIndex = s.txIndex ∨ (s.txIndex < s.txSize ∧ t.txIndex = s.txIndex + 1#8)
  rx : RxMove s t (s.slaveCursor = .slavePostCommand ∧ s.flags.blk = true)
  slave : t.slaveCursor = s.slaveCursor ∨ t.slaveCursor.slaveOwn = true
  crc : s.flags.pec = false → t.computedCrc = s.computedCrc ∧ t.receivedCrc = s.receivedCrc
  trace : ∃ acts : List Action, t.trace = s.trace ++ acts ∧ acts.length ≤ n

theorem lt_of_not_le {x y : Byte} (h : ¬y ≤ x) : x < y := by
  simpa [BitVec.lt_def, BitVec.le_def] using h

theorem masterEnd_effect {s s1 : State} {st : Status} (hst : st ≠ .masterError)
    (h : s1 = { s with receivedCrc := s1.receivedCrc, rxbuf := s1.rxbuf, rxIndex := s1.rxIndex, trace := s1.trace })
    (hrx : RxMove s s1 (s.masterCursor = .readBlockSize))
    (hc : s.flags.pec = false → s1.receivedCrc = s.receivedCrc)
    (ht : ∃ acts : List Action, s1.trace = s.trace ++ acts ∧ acts.length ≤ 3) :
    Ends (MasterEffect s) (masterEnd s1 st) := by
  rw [h]
  exact ends_finish
    { frame := rfl, tip := by simp, tx := .inl rfl, rx := by rw [h] at hrx; exact hrx, slave := .inl rfl,
      handled := fun _ => ⟨rfl, hst⟩, crc := fun h => ⟨rfl, hc h⟩, trace := ht }

theorem masterIdle_effect (s : State) : Ends (MasterEffect s) (masterIdle (s.emit .mIclrData)) :=
  ends_finish
    { frame := rfl, tip := by simp, tx := .inl rfl, rx := .inl ⟨rfl, rfl, rfl⟩, slave := .inl rfl,
      handled := fun h => ⟨h, by simp⟩, crc := fun _ => ⟨rfl, rfl⟩, trace := ⟨[.mIclrData], rfl, by simp⟩ }

theorem txOverrun_effect (s : State) : Ends (MasterEffect s) (txOverrun (s.emit .mIclrData)) :=
  masterEnd_effect (by simp) rfl (.inl ⟨rfl, rfl, rfl⟩) (fun _ => rfl) (by simp)

theorem rxOverrun_effect (s : State) : Ends (MasterEffect s) (rxOverrun (s.emit .mIclrData)) := by
  unfold rxOverrun
  refine ends_finish ?_
  simp only [State.emit, State.setMaster, State.setResult]
  exact
    { frame := rfl, tip := id, tx := .inl rfl, rx := .inl ⟨rfl, rfl, rfl⟩, slave := .inl rfl,
      handled := fun _ => ⟨rfl, by simp⟩, crc := fun _ => ⟨rfl, rfl⟩, trace := by simp }

theorem masterWriteBlockSize_effect (s : State) :
    Ends (MasterEffect s) (masterWriteBlockSize (s.emit .mIclrData)) := by
  unfold masterWriteBlockSize
  refine ends_finish ?_
  simp only [State.emit, State.fold, State.setMaster, State.setResult]
  exact
    { frame := rfl, tip := id, tx := .inl rfl, rx := .inl ⟨rfl, rfl, rfl⟩, slave := .inl rfl,
      handled := fun _ => ⟨by by_cases h : s.txSize = 1#8 ∧ s.flags.pec = false <;> simp [h, Cursor.masterHandled], by simp⟩
      crc := fun h => by simp [h], trace := by simp }

theorem masterWriteNext_effect (s : State) :
    Ends (MasterEffect s) (masterWriteNext (s.emit .mIclrData)) := by
  unfold masterWriteNext
  refine ends_ite (fun _ => txOverrun_effect s) fun h => ends_withNextTx fun b _ => ends_finish ?_
  have hlt := lt_of_not_le h
  split <;> simp only [State.emit, State.fold, State.setMaster, State.setResult]
  · exact
      { frame := rfl, tip := id, tx := .inr ⟨hlt, rfl⟩, rx := .inl ⟨rfl, rfl, rfl⟩, slave := .inl rfl,
        handled := fun _ => ⟨rfl, by simp⟩, crc := fun h => by simp [h], trace := by simp }
  · exact
      { frame := rfl, tip := id, tx := .inr ⟨hlt, rfl⟩, rx := .inl ⟨rfl, rfl, rfl⟩, slave := .inl rfl,
        handled := fun h => ⟨h, by simp⟩, crc := fun h => by simp [h], trace := by simp }

theorem masterWriteEnd_effect {s s1 : State} (hs : s.masterCursor = .writeFinal)
    (h : s1 = { s with txIndex := s1.txIndex, computedCrc := s1.computedCrc, trace := s1.trace })
    (htx : s1.txIndex = s.txIndex ∨ (s.txIndex < s.txSize ∧ s1.txIndex = s.txIndex + 1#8))
    (hc : s.flags.pec = false → s1.computedCrc = s.computedCrc)
    (ht : ∃ acts : List Action, s1.trace = s.trace ++ acts ∧ acts.length ≤ 2) :
    Ends (MasterEffect s) (masterWriteEnd s1) := by
  obtain ⟨acts, hacts, hl⟩ := ht
  have more : ∀ c : Ctl, ∃ more : List Action, s1.trace ++ [.mCtl c] = s.trace ++ more ∧ more.length ≤ 3 :=
    fun c => ⟨acts ++ [.mCtl c], by simp [hacts], by simp; omega⟩
  rw [h]
  refine ends_ite (fun hp => ends_finish ?_) fun _ => ends_finish ?_
  · exact
      { frame := rfl, tip := by simp, tx := htx, rx := .inl ⟨rfl, rfl, rfl⟩, slave := .inr ⟨rfl, rfl, hs, hp⟩,
        handled := fun _ => ⟨rfl, by simp⟩, crc := fun h => ⟨hc h, rfl⟩, trace := more _ }
  · exact
      { frame := rfl, tip := by simp, tx := htx, rx := .inl ⟨rfl, rfl, rfl⟩, slave := .inl rfl,
        handled := fun _ => ⟨rfl, by simp⟩, crc := fun h => ⟨hc h, rfl⟩, trace := more _ }

theorem masterWriteFinal_effect (s : State) (hs : s.masterCursor = .writeFinal) :
    Ends (MasterEffect s) (masterWriteFinal (s.emit .mIclrData)) :=
  ends_ite (fun _ => masterWriteEnd_effect hs rfl (.inl rfl) (fun _ => rfl) (by simp)) fun _ =>
    ends_ite (fun _ => txOverrun_effect s) fun h => ends_withNextTx fun _ _ =>
      masterWriteEnd_effect hs rfl (.inr ⟨lt_of_not_le h, rfl⟩) (fun h => by simp [h]) (by simp)

theorem selectRead_effect {s s1 : State} (first : Bool) (r : Nat)
    (h : s1 = { s with rxSize := s1.rxSize, computedCrc := s1.computedCrc, trace := s1.trace })
    (hrx : RxMove s s1 (s.masterCursor = .readBlockSize))
    (hc : s.flags.pec = false → s1.computedCrc = s.computedCrc)
    (ht : ∃ acts : List Action, s1.trace = s.trace ++ acts ∧ acts.length ≤ 2) :
    Ends (MasterEffect s) (finish (selectRead first r s1) .ok 0#8) := by
  obtain ⟨acts, hacts, hl⟩ := ht
  have more : ∀ c : Ctl, ∃ more : List Action, s1.trace ++ [.mCtl c] = s.trace ++ more ∧ more.length ≤ 3 :=
    fun c => ⟨acts ++ [.mCtl c], by simp [hacts], by simp; omega⟩
  refine ends_finish ?_
  unfold selectRead
  rw [h]
  split
  · exact
      { frame := rfl, tip := by simp, tx := .inl rfl, rx := by rw [h] at hrx; exact hrx, slave := .inl rfl,
        handled := fun _ => ⟨rfl, by simp⟩, crc := fun h => ⟨hc h, rfl⟩, trace := more _ }
  · split
    · exact
        { frame := rfl, tip := by simp, tx := .inl rfl, rx := by rw [h] at hrx; exact hrx, slave := .inl rfl,
          handled := fun _ => ⟨rfl, by simp⟩, crc := fun h => ⟨hc h, rfl⟩, trace := more _ }
    · exact
        { frame := rfl, tip := by simp, tx := .inl rfl, rx := by rw [h] at hrx; exact hrx, slave := .inl rfl,
          handled := fun _ => ⟨rfl, by simp⟩, crc := fun h => ⟨hc h, rfl⟩, trace := more _ }

theorem masterReadFirst_effect (s : State) : Ends (MasterEffect s) (masterReadFirst (s.emit .mIclrData)) := by
  unfold masterReadFirst
  refine ends_ite (fun _ => ends_finish ?_) fun _ => selectRead_effect true _ rfl (.inl ⟨rfl, rfl, rfl⟩) (fun h => by simp [h]) (by simp)
  simp only [State.emit, State.fold, State.setMaster, State.setResult]
  exact
    { frame := rfl, tip := id, tx := .inl rfl, rx := .inl ⟨rfl, rfl, rfl⟩, slave := .inl rfl,
      handled := fun _ => ⟨rfl, by simp⟩, crc := fun h => by simp [h], trace := by simp }

theorem masterReadBlockSize_effect (s : State) (hs : s.masterCursor = .readBlockSize) :
    Ends (MasterEffect s) (masterReadBlockSize (s.emit .mIclrData)) :=
  ends_ite (fun _ => selectRead_effect false _ rfl (.inr (.inr ⟨hs, rfl, rfl, rfl⟩)) (fun h => by simp [h]) (by simp))
    fun _ => ends_finish
      { frame := rfl, tip := by simp, tx := .inl rfl, rx := .inr (.inr ⟨hs, rfl, rfl, rfl⟩), slave := .inl rfl,
        handled := fun _ => ⟨rfl, by simp⟩, crc := fun h => by simp, trace := by simp }

theorem masterReadNext_effect (s : State) :
    Ends (MasterEffect s) (masterReadNext (s.emit .mIclrData)) := by
  unfold masterReadNext
  refine ends_ite (fun _ => rxOverrun_effect s) fun h => ends_finish ?_
  have hlt := lt_of_not_le h
  split <;> simp only [masterTake, State.emit, State.fold, State.storeRx, State.setMaster, State.setResult]
  · exact
      { frame := rfl, tip := id, tx := .inl rfl, rx := .inr (.inl ⟨hlt, rfl, rfl, rfl⟩), slave := .inl rfl,
        handled := fun _ => ⟨rfl, by simp⟩, crc := fun h => by simp [h], trace := by simp }
  · exact
      { frame := rfl, tip := id, tx := .inl rfl, rx := .inr (.inl ⟨hlt, rfl, rfl, rfl⟩), slave := .inl rfl,
        handled := fun h => ⟨h, by simp⟩, crc := fun h => by simp [h], trace := by simp }

theorem masterReadFinal_effect (s : State) : Ends (MasterEffect s) (masterReadFinal (s.emit .mIclrData)) := by
  unfold masterReadFinal
  refine ends_ite (fun _ => rxOverrun_effect s) fun h => ends_finish ?_
  have hlt := lt_of_not_le h
  simp only [masterTake, State.emit, State.fold, State.storeRx, State.setMaster, State.setResult]
  exact
    { frame := rfl, tip := id, tx := .inl rfl, rx := .inr (.inl ⟨hlt, rfl, rfl, rfl⟩), slave := .inl rfl,
      handled := fun _ => ⟨rfl, by simp⟩, crc := fun h => by simp [h], trace := by simp }

theorem masterReadWait_effect (s : State) : Ends (MasterEffect s) (masterReadWait (s.emit .mIclrData)) :=
  ends_ite (fun hp => masterEnd_effect (by split <;> simp) rfl (.inl ⟨rfl, rfl, rfl⟩) (fun h => by simp [h] at hp) (by simp))
    fun _ => ends_ite (fun _ => masterEnd_effect (by simp) rfl (.inl ⟨rfl, rfl, rfl⟩) (fun _ => rfl) (by simp)) fun h =>
      masterEnd_effect (by simp) rfl (.inr (.inl ⟨lt_of_not_le h, rfl, rfl, rfl⟩)) (fun _ => rfl) (by simp)

theorem masterDefault_effect (s : State) (hs : s.masterCursor.masterHandled = false) :
    Ends (MasterEffect s) (masterDefault (s.emit .mIclrData)) :=
  ends_finish
    { frame := rfl, tip := by simp, tx := .inl rfl, rx := .inl ⟨rfl, rfl, rfl⟩, slave := .inl rfl,
      handled := fun h => by simp [hs] at h, crc := fun _ => ⟨rfl, rfl⟩, trace := by simp }

theorem masterDispatch_effect (s : State) : Ends (MasterEffect s) (masterDispatch (s.emit .mIclrData)) := by
  unfold masterDispatch
  split <;> rename_i hs
  · exact masterIdle_effect s
  · exact masterDefault_effect s (by rw [show s.masterCursor = _ from hs]; rfl)
  · exact masterWriteBlockSize_effect s
  · exact masterWriteNext_effect s
  · exact masterWriteFinal_effect s hs
  · exact masterDefault_effect s (by rw [show s.masterCursor = _ from hs]; rfl)
  · exact masterReadFirst_effect s
  · exact masterReadFirst_effect s
  · exact masterReadBlockSize_effect s hs
  · exact masterReadNext_effect s
  · exact masterReadFinal_effect s
  · exact masterReadWait_effect s
  · exact masterDefault_effect s (by rw [show s.masterCursor = _ from hs]; rfl)
  · exact masterDefault_effect s (by rw [show s.masterCursor = _ from hs]; rfl)
  · exact masterEnd_effect (by simp) rfl (.inl ⟨rfl, rfl, rfl⟩) (fun _ => rfl) (by simp)
  · exact masterDefault_effect s (by rw [show s.masterCursor = _ from hs]; rfl)

/-- Everything one MINTP can do to the state (R210 to R230). -/
theorem masterInterrupt_effect (s : State) : Ends (MasterEffect s) (masterInterrupt s) :=
  ends_ite (fun _ => masterEnd_effect (by simp) rfl (.inl ⟨rfl, rfl, rfl⟩) (fun _ => rfl) (by simp)) fun _ =>
    ends_ite (fun _ => masterEnd_effect (by simp) rfl (.inl ⟨rfl, rfl, rfl⟩) (fun _ => rfl) (by simp)) fun _ =>
      ends_ite
        (fun _ => ends_finish
          { frame := by split <;> rfl, tip := by split <;> simp, tx := .inl (by split <;> rfl)
            rx := .inl (by split <;> exact ⟨rfl, rfl, rfl⟩), slave := .inl (by split <;> rfl)
            handled := fun _ => ⟨by split <;> rfl, by simp only [State.setResult_result]; split <;> simp⟩
            crc := fun _ => by split <;> exact ⟨rfl, rfl⟩
            trace := by split <;> simp })
        fun _ => masterDispatch_effect s

theorem slaveOwn_nextTx (s : State) : s.nextTxState.slaveCursor.slaveOwn = true := by
  simp only [State.nextTxState, State.setSlave]
  split
  · rfl
  · split <;> rfl

/-- A command that only appends to the trace: the filler, the PEC byte, or nothing. -/
theorem slavePut_effect (s : State) (acts : List Action) (n : Nat) (c : Cursor) (st : Status) (d : Byte)
    (hl : acts.length ≤ n) (hc : c = s.slaveCursor ∨ c.slaveOwn = true) :
    Ends (SlaveEffect n s) (finish { s with trace := s.trace ++ acts, slaveCursor := c } st d) :=
  ends_finish
    { frame := rfl, tx := .inl rfl, rx := .inl ⟨rfl, rfl, rfl⟩, slave := hc, crc := fun _ => ⟨rfl, rfl⟩,
      trace := ⟨acts, rfl, hl⟩ }

theorem slaveFirstTxEnd_effect (s : State) (i b : Byte) (htx : i = s.txIndex ∨ (s.txIndex < s.txSize ∧ i = s.txIndex + 1#8)) :
    Ends (SlaveEffect 1 s) (slaveFirstTxEnd { s with txIndex := i } b) := by
  refine ends_finish ⟨?_, htx, .inl ⟨rfl, rfl, rfl⟩, .inr (slaveOwn_nextTx _), fun hp => ?_, ⟨[.sPut b], rfl, by simp⟩⟩
  · simp only [State.nextTxState, State.setTip, State.fold, State.emit, State.setSlave, State.setResult]
  · simp [hp, State.nextTxState, State.setTip, State.fold, State.emit, State.setSlave]

theorem slaveFirstTx_effect (s : State) : Ends (SlaveEffect 1 s) (slaveFirstTx s) :=
  ends_ite (fun _ => slaveFirstTxEnd_effect s _ _ (.inl rfl)) fun _ =>
    ends_ite (fun h => ends_withNextTx fun _ _ => slaveFirstTxEnd_effect s _ _ (.inr ⟨h, rfl⟩)) fun _ =>
      slaveFirstTxEnd_effect s _ _ (.inl rfl)

theorem slaveNextTx_effect (s : State) : Ends (SlaveEffect 1 s) (slaveNextTx s) := by
  unfold slaveNextTx
  refine ends_ite (fun h => ends_withNextTx fun b _ => ends_finish ?_) fun _ =>
    ends_ite (fun _ => slavePut_effect s _ 1 _ _ _ (by simp) (.inr rfl)) fun _ =>
      slavePut_effect s _ 1 _ _ _ (by simp) (.inr rfl)
  refine ⟨?_, .inr ⟨h, rfl⟩, .inl ⟨rfl, rfl, rfl⟩, .inr (slaveOwn_nextTx _), fun hp => ?_, ⟨[.sPut b], rfl, by simp⟩⟩
  · simp only [State.nextTxState, State.fold, State.emit, State.setSlave, State.setResult]
  · simp [hp, State.nextTxState, State.fold, State.emit, State.setSlave]

/-- Everything SDSEND, and the transmit path of SINTP, can do to the state (R270 to R274). -/
theorem slaveTx_effect (s : State) : Ends (SlaveEffect 1 s) (slaveTx s) := by
  unfold slaveTx
  refine ends_ite (fun _ => ?_) fun _ => ?_
  · simpa using slavePut_effect s [] 1 s.slaveCursor .slaveNotReady 0#8 (by simp) (.inl rfl)
  · split
    all_goals first
      | exact slaveFirstTx_effect s
      | exact slaveNextTx_effect s
      | exact slavePut_effect s [.sPut filler] 1 s.slaveCursor _ _ (by simp) (.inl rfl)

/-- An effect stays one when the interrupt clears and the address capture come before it. -/
theorem SlaveEffect.after {n : Nat} {s t : State} (own : BusAddr) (pre : List Action)
    (h : SlaveEffect n { s with trace := s.trace ++ pre, ownAddress := own } t) : SlaveEffect (pre.length + n) s t where
  frame := h.frame
  tx := h.tx
  rx := h.rx
  slave := h.slave
  crc := h.crc
  trace := by
    obtain ⟨acts, ha, hl⟩ := h.trace
    exact ⟨pre ++ acts, by simp [ha], by simp; omega⟩

theorem ends_after {n : Nat} {s : State} {o : Out} (own : BusAddr) (pre : List Action)
    (h : Ends (SlaveEffect n { s with trace := s.trace ++ pre, ownAddress := own }) o) :
    Ends (SlaveEffect (pre.length + n) s) o := fun t ht => (h t ht).after own pre

theorem slaveTransmit_effect (s : State) : Ends (SlaveEffect 1 s) (slaveTransmit s) := by
  unfold slaveTransmit
  split
  · have h := ends_after (if s.inputs.stOwn2 then s.saddr1 else s.saddr0) [] (slaveTx_effect
      { s with trace := s.trace ++ [], ownAddress := if s.inputs.stOwn2 then s.saddr1 else s.saddr0 })
    simpa [State.captureOwn] using h
  · exact slaveTx_effect s

theorem slaveFirstByte_effect (s : State) : Ends (SlaveEffect 1 s) (slaveFirstByte s) := by
  unfold slaveFirstByte
  refine ends_ite (fun _ => ends_ite (fun _ => ends_fault _) fun h => ends_finish ?_) fun _ => ends_finish ?_
  all_goals simp only [State.seedSlave, State.captureOwn, State.emit, State.storeRx, State.setSlave,
    State.setTip, State.setResult]
  · exact ⟨rfl, .inl rfl, .inr (.inl ⟨lt_of_not_le h, rfl, rfl, rfl⟩), .inr rfl, fun hp => by simp [hp],
      ⟨[.sGet], rfl, by simp⟩⟩
  · exact ⟨rfl, .inl rfl, .inl ⟨rfl, rfl, rfl⟩, .inr rfl, fun hp => by simp [hp], ⟨[.sGet], rfl, by simp⟩⟩

theorem slaveOwn_afterStore (s : State) : (afterStore s).slaveOwn = true := by
  unfold afterStore
  split
  · split <;> rfl
  · rfl

theorem storePayload_effect (s : State) : Ends (SlaveEffect 1 s) (storePayload (s.emit .sGet) s.inputs.data) := by
  unfold storePayload
  refine ends_ite (fun _ => slavePut_effect s _ 1 s.slaveCursor _ _ (by simp) (.inl rfl)) fun h => ends_finish ?_
  have hlt := lt_of_not_le h
  refine ⟨?_, .inl rfl, .inr (.inl ⟨hlt, rfl, rfl, rfl⟩), .inr (slaveOwn_afterStore _), fun hp => ?_, ⟨[.sGet], rfl, by simp⟩⟩
  · simp only [State.fold, State.emit, State.storeRx, State.setSlave, State.setResult]
  · simp [hp, State.fold, State.emit, State.storeRx, State.setSlave]

theorem slaveBlockSize_effect (s : State) (hs : s.slaveCursor = .slavePostCommand ∧ s.flags.blk = true) :
    Ends (SlaveEffect 1 s) (slaveBlockSize (s.emit .sGet) s.inputs.data) := by
  unfold slaveBlockSize
  refine ends_ite (fun _ => slavePut_effect s _ 1 _ _ _ (by simp) (.inr rfl)) fun h => ends_finish ?_
  exact ⟨rfl, .inl rfl, .inr (.inr ⟨hs, rfl, rfl, rfl⟩), .inr rfl, fun hp => by simp [hp], ⟨[.sGet], rfl, by simp⟩⟩

theorem slavePecOff_effect (s : State) : Ends (SlaveEffect 1 s) (slavePecOff (s.emit .sGet)) := by
  unfold slavePecOff
  split <;> refine ends_finish ?_
  · exact ⟨rfl, .inl rfl, .inl ⟨rfl, rfl, rfl⟩, .inr rfl, fun _ => ⟨rfl, rfl⟩, ⟨[.sGet], rfl, by simp⟩⟩
  all_goals exact ⟨rfl, .inl rfl, .inl ⟨rfl, rfl, rfl⟩, .inl rfl, fun _ => ⟨rfl, rfl⟩, ⟨[.sGet], rfl, by simp⟩⟩

theorem slaveReadPec_effect (s : State) : Ends (SlaveEffect 1 s) (slaveReadPec (s.emit .sGet) s.inputs.data) := by
  unfold slaveReadPec
  refine ends_ite (fun hp => ends_ite (fun _ => ends_finish ?_) fun _ => ends_finish ?_) fun _ => slavePecOff_effect s
  · exact ⟨rfl, .inl rfl, .inl ⟨rfl, rfl, rfl⟩, .inr rfl, fun h => by simp [h] at hp, ⟨[.sGet], rfl, by simp⟩⟩
  · exact ⟨rfl, .inl rfl, .inl ⟨rfl, rfl, rfl⟩, .inl rfl, fun h => by simp [h] at hp, ⟨[.sGet], rfl, by simp⟩⟩

theorem slaveReceive_effect (s : State) : Ends (SlaveEffect 1 s) (slaveReceive s) := by
  unfold slaveReceive
  dsimp only
  split
  · exact ends_ite (fun hb => slaveBlockSize_effect s ⟨‹_›, hb⟩) fun _ => storePayload_effect s
  · exact storePayload_effect s
  · exact slaveReadPec_effect s
  all_goals exact slavePut_effect s _ 1 s.slaveCursor _ _ (by simp) (.inl rfl)

theorem slaveStop_effect (s : State) : Ends (SlaveEffect 0 s) (slaveStop s) := by
  unfold slaveStop
  refine ends_ite (fun _ => ends_ite (fun _ => ends_finish ?_) fun _ => ends_finish ?_) fun _ => ends_finish ?_
  · exact ⟨rfl, .inl rfl, .inl ⟨rfl, rfl, rfl⟩, .inl rfl, fun _ => ⟨rfl, rfl⟩, ⟨[], by simp, by simp⟩⟩
  · exact ⟨rfl, .inl rfl, .inl ⟨rfl, rfl, rfl⟩, .inl rfl, fun _ => ⟨rfl, rfl⟩, ⟨[], by simp, by simp⟩⟩
  · exact ⟨rfl, .inl rfl, .inl ⟨rfl, rfl, rfl⟩, .inr rfl, fun _ => ⟨rfl, rfl⟩, ⟨[], by simp, by simp⟩⟩

theorem SlaveEffect.mono {m n : Nat} {s t : State} (h : SlaveEffect m s t) (hmn : m ≤ n) : SlaveEffect n s t :=
  { h with trace := h.trace.imp fun _ ha => ⟨ha.1, ha.2.trans hmn⟩ }

theorem slaveData_effect (s : State) : Ends (SlaveEffect 1 s) (slaveData s) :=
  ends_ite (fun _ => slaveFirstByte_effect s) fun _ => ends_ite (fun _ => slaveReceive_effect s) fun _ =>
    ends_ite (fun _ => slaveTransmit_effect s) fun _ => by
      simpa using slavePut_effect s [] 1 s.slaveCursor .ok 0#8 (by simp) (.inl rfl)

/-- The actions of SINTP's START clear (R251). -/
def startClear (s : State) : List Action := if s.inputs.intStart then [.sIclrStart] else []

theorem startClear_length (s : State) : (startClear s).length ≤ 1 := by
  unfold startClear
  split <;> simp

/-- SINTP as one choice, the interrupt clears already in the trace (R250). -/
theorem slaveInterrupt_eq (s : State) : slaveInterrupt s =
    if s.inputs.intStop then slaveStop { s with trace := s.trace ++ (startClear s ++ [.sIclrStop]) }
    else if s.inputs.intData then slaveData { s with trace := s.trace ++ (startClear s ++ [.sIclrData]) }
    else finish { s with trace := s.trace ++ startClear s } .ok 0#8 := by
  have hs : (if s.inputs.intStart then s.emit .sIclrStart else s) = { s with trace := s.trace ++ startClear s } := by
    unfold startClear
    split
    · rfl
    · simp
  unfold slaveInterrupt
  rw [hs]
  simp only [State.emit, List.append_assoc]

/-- Everything one SINTP can do to the state (R250 to R274). -/
theorem slaveInterrupt_effect (s : State) : Ends (SlaveEffect 3 s) (slaveInterrupt s) := by
  have cleared : ∀ (pre : List Action) (o : State → Out), pre.length ≤ 2 →
      (∀ u, Ends (SlaveEffect 1 u) (o u)) → Ends (SlaveEffect 3 s) (o { s with trace := s.trace ++ pre }) :=
    fun pre o hl ho t ht => ((ho _ t ht).after s.ownAddress pre).mono (by omega)
  have stop : ∀ u, Ends (SlaveEffect 1 u) (slaveStop u) := fun u t ht => (slaveStop_effect u t ht).mono (by omega)
  have hl := startClear_length s
  rw [slaveInterrupt_eq]
  exact ends_ite (fun _ => cleared _ slaveStop (by simpa using hl) stop) fun _ =>
    ends_ite (fun _ => cleared _ slaveData (by simpa using hl) slaveData_effect) fun _ =>
      slavePut_effect s _ 3 s.slaveCursor _ _ (by omega) (.inl rfl)

/-- What SDSEND leaves alone beyond `SlaveEffect`: the whole receive side; and TIP is only set (R271). -/
structure TxKeeps (s t : State) : Prop where
  rxbuf : t.rxbuf = s.rxbuf
  rxIndex : t.rxIndex = s.rxIndex
  rxSize : t.rxSize = s.rxSize
  received : t.receivedCrc = s.receivedCrc
  command : t.currentCommand = s.currentCommand
  tip : s.flags.tip = true → t.flags.tip = true

theorem slaveFirstTxEnd_keeps (s : State) (i b : Byte) :
    Ends (TxKeeps s) (slaveFirstTxEnd { s with txIndex := i } b) := by
  refine ends_finish ?_
  simp only [State.nextTxState, State.setTip, State.fold, State.emit, State.setSlave, State.setResult]
  exact ⟨rfl, rfl, rfl, rfl, rfl, fun _ => rfl⟩

theorem slaveFirstTx_keeps (s : State) : Ends (TxKeeps s) (slaveFirstTx s) :=
  ends_ite (fun _ => slaveFirstTxEnd_keeps s _ _) fun _ =>
    ends_ite (fun _ => ends_withNextTx fun _ _ => slaveFirstTxEnd_keeps s _ _) fun _ => slaveFirstTxEnd_keeps s _ _

theorem slaveNextTx_keeps (s : State) : Ends (TxKeeps s) (slaveNextTx s) := by
  unfold slaveNextTx
  refine ends_ite (fun _ => ends_withNextTx fun _ _ => ends_finish ?_) fun _ =>
    ends_ite (fun _ => ends_finish ?_) fun _ => ends_finish ?_
  all_goals
    simp only [State.nextTxState, State.fold, State.emit, State.setSlave, State.setResult]
    exact ⟨rfl, rfl, rfl, rfl, rfl, id⟩

theorem slavePut_keeps (s : State) (acts : List Action) (st : Status) (d : Byte) :
    Ends (TxKeeps s) (finish { s with trace := s.trace ++ acts } st d) :=
  ends_finish ⟨rfl, rfl, rfl, rfl, rfl, id⟩

theorem slaveTx_keeps (s : State) : Ends (TxKeeps s) (slaveTx s) := by
  unfold slaveTx
  refine ends_ite (fun _ => by simpa using slavePut_keeps s [] .slaveNotReady 0#8) fun _ => ?_
  split
  all_goals first
    | exact slaveFirstTx_keeps s
    | exact slaveNextTx_keeps s
    | exact slavePut_keeps s [.sPut filler] _ _

end Sys2Proof.Machine
end

