-- ==== Sys2Proof/Laws/Halts.lean ====
section
/-! SUPPORT. `Halts P o`: the outcome is no refusal, and if it is a fault, the fault satisfies `P`. One rule per way a
meaning is built, and where the two interrupt commands and SDSEND can stop. -/

namespace Sys2Proof.Machine

/-- The outcome stops only with a fault that satisfies `P`. -/
def Halts (P : Fault → Prop) (o : Out) : Prop := (∀ r, o ≠ .refused r) ∧ ∀ f, o = .fault f → P f

theorem halts_next {P : Fault → Prop} (t : State) : Halts P (.next t) := ⟨by simp, by simp⟩

theorem halts_finish {P : Fault → Prop} (s : State) (st : Status) (d : Byte) : Halts P (finish s st d) := halts_next _

theorem halts_fault {P : Fault → Prop} {f : Fault} (h : P f) : Halts P (.fault f) :=
  ⟨by simp, by rintro g ⟨rfl⟩; exact h⟩

theorem Halts.weaken {P Q : Fault → Prop} {o : Out} (h : Halts P o) (hpq : ∀ f, P f → Q f) : Halts Q o :=
  ⟨h.1, fun f hf => hpq f (h.2 f hf)⟩

theorem halts_ite {P : Fault → Prop} {c : Prop} [Decidable c] {a b : Out} (ha : c → Halts P a)
    (hb : ¬c → Halts P b) : Halts P (if c then a else b) := by
  split
  · exact ha ‹_›
  · exact hb ‹_›

theorem halts_whenInited {P : Fault → Prop} {s : State} {o : Out} (h : Halts P o) : Halts P (whenInited s o) :=
  halts_ite (fun _ => h) fun _ => halts_next _

theorem halts_withTxByte {P : Fault → Prop} {s : State} {i : Nat} {k : Byte → Out}
    (hn : s.txbuf.read i = none → P (.unwrittenTxByte i)) (h : ∀ b, s.txbuf.read i = some b → Halts P (k b)) :
    Halts P (withTxByte s i k) := by
  unfold withTxByte
  split
  · exact h _ ‹_›
  · exact halts_fault (hn ‹_›)

theorem halts_startChecked {P : Fault → Prop} {s : State} {ok : Bool} {o : Out} (h : Halts P o) :
    Halts P (startChecked s ok o) :=
  halts_ite (fun _ => halts_finish _ _ _) fun _ => halts_ite (fun _ => h) fun _ => halts_finish _ _ _

theorem halts_arm {P : Fault → Prop} (s : State) (r : StartRow) : Halts P (arm s r) := halts_finish _ _ _

theorem halts_withUdidPacket {P : Fault → Prop} {s : State} {a : Byte} {k : State → Out}
    (hn : s.udidWritten.all = false → P .unwrittenUdid)
    (h : Halts P (k { s with txbuf := s.txbuf.writeBytes 0 (udidEncode s.udid a) })) :
    Halts P (withUdidPacket s a k) :=
  halts_ite (fun _ => h) fun hw => halts_fault (hn (by simpa using hw))

/-- The payload byte that is due is unwritten (R69). -/
def TxGap (s : State) (f : Fault) : Prop :=
  f = .unwrittenTxByte s.txIndex.toNat ∧ s.txbuf.read s.txIndex.toNat = none ∧ s.txIndex < s.txSize

/-- The raw first byte has no room (R262). -/
def RawGap (s : State) (f : Fault) : Prop :=
  f = .rawStoreBeyondCapacity s.rxIndex.toNat ∧ s.rxSize ≤ s.rxIndex ∧ s.flags.raw = true

theorem masterWriteEnd_halts {P : Fault → Prop} (s : State) : Halts P (masterWriteEnd s) :=
  halts_ite (fun _ => halts_finish _ _ _) fun _ => halts_finish _ _ _

theorem masterWriteNext_halts (s : State) : Halts (TxGap s) (masterWriteNext s) :=
  halts_ite (fun _ => halts_finish _ _ _) fun h =>
    halts_withTxByte (fun hn => ⟨rfl, hn, lt_of_not_le h⟩) fun _ _ => halts_finish _ _ _

theorem masterWriteFinal_halts (s : State) : Halts (TxGap s) (masterWriteFinal s) :=
  halts_ite (fun _ => masterWriteEnd_halts _) fun _ => halts_ite (fun _ => halts_finish _ _ _) fun h =>
    halts_withTxByte (fun hn => ⟨rfl, hn, lt_of_not_le h⟩) fun _ _ => masterWriteEnd_halts _

/-- MINTP stops only on an unwritten payload byte. -/
theorem masterInterrupt_halts (s : State) : Halts (TxGap s) (masterInterrupt s) := by
  refine halts_ite (fun _ => halts_finish _ _ _) fun _ => halts_ite (fun _ => halts_finish _ _ _) fun _ =>
    halts_ite (fun _ => halts_finish _ _ _) fun _ => ?_
  unfold masterDispatch
  split
  all_goals first
    | exact masterWriteNext_halts (s.emit .mIclrData)
    | exact masterWriteFinal_halts (s.emit .mIclrData)
    | exact halts_finish _ _ _
    | exact halts_ite (fun _ => halts_finish _ _ _) fun _ => halts_finish _ _ _
    | exact halts_ite (fun _ => halts_finish _ _ _) fun _ =>
        halts_ite (fun _ => halts_finish _ _ _) fun _ => halts_finish _ _ _

theorem slaveFirstTx_halts (s : State) : Halts (TxGap s) (slaveFirstTx s) :=
  halts_ite (fun _ => halts_finish _ _ _) fun _ =>
    halts_ite (fun h => halts_withTxByte (fun hn => ⟨rfl, hn, h⟩) fun _ _ => halts_finish _ _ _) fun _ =>
      halts_finish _ _ _

theorem slaveNextTx_halts (s : State) : Halts (TxGap s) (slaveNextTx s) :=
  halts_ite (fun h => halts_withTxByte (fun hn => ⟨rfl, hn, h⟩) fun _ _ => halts_finish _ _ _) fun _ =>
    halts_ite (fun _ => halts_finish _ _ _) fun _ => halts_finish _ _ _

/-- SDSEND stops only on an unwritten payload byte. -/
theorem slaveTx_halts (s : State) : Halts (TxGap s) (slaveTx s) := by
  refine halts_ite (fun _ => halts_finish _ _ _) fun _ => ?_
  split
  all_goals first
    | exact slaveFirstTx_halts s
    | exact slaveNextTx_halts s
    | exact halts_finish _ _ _

theorem storePayload_halts {P : Fault → Prop} (s : State) (b : Byte) : Halts P (storePayload s b) :=
  halts_ite (fun _ => halts_finish _ _ _) fun _ => halts_finish _ _ _

theorem slavePecOff_halts {P : Fault → Prop} (s : State) : Halts P (slavePecOff s) := by
  unfold slavePecOff
  split <;> exact halts_finish _ _ _

theorem slaveReceive_halts {P : Fault → Prop} (s : State) : Halts P (slaveReceive s) := by
  unfold slaveReceive
  dsimp only
  split
  · exact halts_ite (fun _ => halts_ite (fun _ => halts_finish _ _ _) fun _ => halts_finish _ _ _) fun _ =>
      storePayload_halts _ _
  · exact storePayload_halts _ _
  · exact halts_ite (fun _ => halts_ite (fun _ => halts_finish _ _ _) fun _ => halts_finish _ _ _) fun _ =>
      slavePecOff_halts _
  all_goals exact halts_finish _ _ _

theorem slaveFirstByte_halts (s : State) : Halts (RawGap s) (slaveFirstByte s) :=
  halts_ite (fun hr => halts_ite (fun h => halts_fault ⟨rfl, h, hr⟩) fun _ => halts_finish _ _ _) fun _ =>
    halts_finish _ _ _

theorem slaveTransmit_halts (s : State) : Halts (TxGap s) (slaveTransmit s) := by
  unfold slaveTransmit
  split
  · exact slaveTx_halts s.captureOwn
  · exact slaveTx_halts s

theorem slaveData_halts (s : State) : Halts (fun f => TxGap s f ∨ RawGap s f) (slaveData s) :=
  halts_ite (fun _ => (slaveFirstByte_halts s).weaken fun _ => .inr) fun _ =>
    halts_ite (fun _ => slaveReceive_halts s) fun _ =>
      halts_ite (fun _ => (slaveTransmit_halts s).weaken fun _ => .inl) fun _ => halts_finish _ _ _

theorem slaveStop_halts {P : Fault → Prop} (s : State) : Halts P (slaveStop s) :=
  halts_ite (fun _ => halts_ite (fun _ => halts_finish _ _ _) fun _ => halts_finish _ _ _) fun _ =>
    halts_finish _ _ _

/-- SINTP stops only on an unwritten payload byte or on the raw first byte without room. -/
theorem slaveInterrupt_halts (s : State) : Halts (fun f => TxGap s f ∨ RawGap s f) (slaveInterrupt s) := by
  rw [slaveInterrupt_eq]
  exact halts_ite (fun _ => slaveStop_halts _) fun _ =>
    halts_ite (fun _ => slaveData_halts { s with trace := s.trace ++ (startClear s ++ [.sIclrData]) }) fun _ =>
      halts_finish _ _ _

end Sys2Proof.Machine
end

