-- ==== Sys2Proof/Laws/PerInstr.lean ====
section
/-! SUPPORT. For every instruction: a row of the opcode map selects the word it encodes to (R83, R85). -/

namespace Sys2Proof.Laws.WordForm

/-- Some row of the opcode map selects the instruction's word. -/
def Statement (i : Instr) : Prop := ∃ r ∈ opcodeRows, r.selects (encode i) = true

theorem addrField_reserved (t : BusAddr) : addrField t &&& 0x80#8 = 0#8 := by
  revert t; decide

theorem bitField_reserved (b : Bool) : bitField b &&& 0xFE#8 = 0#8 := by
  cases b <;> decide

/-- A row at a known place of the map selects a word with its opcode and no reserved bit set. -/
theorem of_row {i : Instr} (k : Nat) {r : OpcodeRow} (a b c : Byte) (hr : opcodeRows[k]? = some r)
    (hw : encode i = commandWord r.opc a b c) (ha : a &&& r.format.reservedA = 0#8)
    (hb : b &&& r.format.reservedB = 0#8) (hc : c &&& r.format.reservedC = 0#8) : Statement i := by
  refine ⟨r, List.mem_of_getElem? hr, ?_⟩
  rw [OpcodeRow.selects_iff, hw]
  simpa using ⟨ha, hb, hc⟩

theorem minit : Statement .minit :=
  of_row 0 _ _ _ rfl rfl BitVec.zero_and BitVec.zero_and BitVec.zero_and

theorem sinit : Statement .sinit :=
  of_row 1 _ _ _ rfl rfl BitVec.zero_and BitVec.zero_and BitVec.zero_and

theorem pecen : Statement .pecen :=
  of_row 2 _ _ _ rfl rfl BitVec.zero_and BitVec.zero_and BitVec.zero_and

theorem pecdis : Statement .pecdis :=
  of_row 3 _ _ _ rfl rfl BitVec.zero_and BitVec.zero_and BitVec.zero_and

theorem arpen : Statement .arpen :=
  of_row 4 _ _ _ rfl rfl BitVec.zero_and BitVec.zero_and BitVec.zero_and

theorem arpdis : Statement .arpdis :=
  of_row 5 _ _ _ rfl rfl BitVec.zero_and BitVec.zero_and BitVec.zero_and

theorem statget : Statement .statget :=
  of_row 6 _ _ _ rfl rfl BitVec.zero_and BitVec.zero_and BitVec.zero_and

theorem rxcnt : Statement .rxcnt :=
  of_row 7 _ _ _ rfl rfl BitVec.zero_and BitVec.zero_and BitVec.zero_and

theorem minten : Statement .minten :=
  of_row 8 _ _ _ rfl rfl BitVec.zero_and BitVec.zero_and BitVec.zero_and

theorem sinten : Statement .sinten :=
  of_row 9 _ _ _ rfl rfl BitVec.zero_and BitVec.zero_and BitVec.zero_and

theorem mquick (target : BusAddr) (bit : Bool) : Statement (.mquick target bit) :=
  of_row 10 _ _ _ rfl rfl (addrField_reserved _) (bitField_reserved _) BitVec.zero_and

theorem msendb (target : BusAddr) (data : Byte) : Statement (.msendb target data) :=
  of_row 11 _ _ _ rfl rfl (addrField_reserved _) BitVec.and_zero BitVec.zero_and

theorem mrecvb (target : BusAddr) : Statement (.mrecvb target) :=
  of_row 12 _ _ _ rfl rfl (addrField_reserved _) BitVec.zero_and BitVec.zero_and

theorem mwrite (target : BusAddr) (command : Byte) (size : Byte) : Statement (.mwrite target command size) :=
  of_row 13 _ _ _ rfl rfl (addrField_reserved _) BitVec.and_zero BitVec.and_zero

theorem mread (target : BusAddr) (command : Byte) (size : Byte) : Statement (.mread target command size) :=
  of_row 14 _ _ _ rfl rfl (addrField_reserved _) BitVec.and_zero BitVec.and_zero

theorem mblkwr (target : BusAddr) (command : Byte) (size : Byte) : Statement (.mblkwr target command size) :=
  of_row 15 _ _ _ rfl rfl (addrField_reserved _) BitVec.and_zero BitVec.and_zero

theorem mblkrd (target : BusAddr) (command : Byte) : Statement (.mblkrd target command) :=
  of_row 16 _ _ _ rfl rfl (addrField_reserved _) BitVec.and_zero BitVec.zero_and

theorem mpcall (target : BusAddr) (command : Byte) : Statement (.mpcall target command) :=
  of_row 17 _ _ _ rfl rfl (addrField_reserved _) BitVec.and_zero BitVec.zero_and

theorem mbpcall (target : BusAddr) (command : Byte) (size : Byte) : Statement (.mbpcall target command size) :=
  of_row 18 _ _ _ rfl rfl (addrField_reserved _) BitVec.and_zero BitVec.and_zero

theorem mnotify (command : Byte) : Statement (.mnotify command) :=
  of_row 19 _ _ _ rfl rfl BitVec.and_zero BitVec.zero_and BitVec.zero_and

theorem mi2cwr (target : BusAddr) (size : Byte) : Statement (.mi2cwr target size) :=
  of_row 20 _ _ _ rfl rfl (addrField_reserved _) BitVec.zero_and BitVec.and_zero

theorem mi2crd (target : BusAddr) (size : Byte) : Statement (.mi2crd target size) :=
  of_row 21 _ _ _ rfl rfl (addrField_reserved _) BitVec.zero_and BitVec.and_zero

theorem mi2cwrrd (target : BusAddr) (txSize : Byte) (rxSize : Byte) : Statement (.mi2cwrrd target txSize rxSize) :=
  of_row 22 _ _ _ rfl rfl (addrField_reserved _) BitVec.and_zero BitVec.and_zero

theorem mintp : Statement .mintp :=
  of_row 23 _ _ _ rfl rfl BitVec.zero_and BitVec.zero_and BitVec.zero_and

theorem arpgug : Statement .arpgug :=
  of_row 24 _ _ _ rfl rfl BitVec.zero_and BitVec.zero_and BitVec.zero_and

theorem arpgud (device : BusAddr) : Statement (.arpgud device) :=
  of_row 25 _ _ _ rfl rfl (addrField_reserved _) BitVec.zero_and BitVec.zero_and

theorem arprstg : Statement .arprstg :=
  of_row 26 _ _ _ rfl rfl BitVec.zero_and BitVec.zero_and BitVec.zero_and

theorem arprstd (device : BusAddr) : Statement (.arprstd device) :=
  of_row 27 _ _ _ rfl rfl (addrField_reserved _) BitVec.zero_and BitVec.zero_and

theorem arpassign (address : Byte) : Statement (.arpassign address) :=
  of_row 28 _ _ _ rfl rfl BitVec.and_zero BitVec.zero_and BitVec.zero_and

theorem arpnotify (command : Byte) : Statement (.arpnotify command) :=
  of_row 29 _ _ _ rfl rfl BitVec.and_zero BitVec.zero_and BitVec.zero_and

theorem arpprep : Statement .arpprep :=
  of_row 30 _ _ _ rfl rfl BitVec.zero_and BitVec.zero_and BitVec.zero_and

theorem udidenc (address : Byte) : Statement (.udidenc address) :=
  of_row 31 _ _ _ rfl rfl BitVec.and_zero BitVec.zero_and BitVec.zero_and

theorem udiddec : Statement .udiddec :=
  of_row 32 _ _ _ rfl rfl BitVec.zero_and BitVec.zero_and BitVec.zero_and

theorem saddrset (address : BusAddr) (slot : Bool) : Statement (.saddrset address slot) :=
  of_row 33 _ _ _ rfl rfl (addrField_reserved _) (bitField_reserved _) BitVec.zero_and

theorem stxset (size : Byte) : Statement (.stxset size) :=
  of_row 34 _ _ _ rfl rfl BitVec.zero_and BitVec.zero_and BitVec.and_zero

theorem srxset (size : Byte) : Statement (.srxset size) :=
  of_row 35 _ _ _ rfl rfl BitVec.zero_and BitVec.zero_and BitVec.and_zero

theorem scmdget : Statement .scmdget :=
  of_row 36 _ _ _ rfl rfl BitVec.zero_and BitVec.zero_and BitVec.zero_and

theorem spcen : Statement .spcen :=
  of_row 37 _ _ _ rfl rfl BitVec.zero_and BitVec.zero_and BitVec.zero_and

theorem spcdis : Statement .spcdis :=
  of_row 38 _ _ _ rfl rfl BitVec.zero_and BitVec.zero_and BitVec.zero_and

theorem sblken : Statement .sblken :=
  of_row 39 _ _ _ rfl rfl BitVec.zero_and BitVec.zero_and BitVec.zero_and

theorem sblkdis : Statement .sblkdis :=
  of_row 40 _ _ _ rfl rfl BitVec.zero_and BitVec.zero_and BitVec.zero_and

theorem si2cen : Statement .si2cen :=
  of_row 41 _ _ _ rfl rfl BitVec.zero_and BitVec.zero_and BitVec.zero_and

theorem si2cdis : Statement .si2cdis :=
  of_row 42 _ _ _ rfl rfl BitVec.zero_and BitVec.zero_and BitVec.zero_and

theorem sarget : Statement .sarget :=
  of_row 43 _ _ _ rfl rfl BitVec.zero_and BitVec.zero_and BitVec.zero_and

theorem sarset (value : Bool) : Statement (.sarset value) :=
  of_row 44 _ _ _ rfl rfl (bitField_reserved _) BitVec.zero_and BitVec.zero_and

theorem savget : Statement .savget :=
  of_row 45 _ _ _ rfl rfl BitVec.zero_and BitVec.zero_and BitVec.zero_and

theorem savset (value : Bool) : Statement (.savset value) :=
  of_row 46 _ _ _ rfl rfl (bitField_reserved _) BitVec.zero_and BitVec.zero_and

theorem sudidset : Statement .sudidset :=
  of_row 47 _ _ _ rfl rfl BitVec.zero_and BitVec.zero_and BitVec.zero_and

theorem smacken : Statement .smacken :=
  of_row 48 _ _ _ rfl rfl BitVec.zero_and BitVec.zero_and BitVec.zero_and

theorem smackdis : Statement .smackdis :=
  of_row 49 _ _ _ rfl rfl BitVec.zero_and BitVec.zero_and BitVec.zero_and

theorem smackget : Statement .smackget :=
  of_row 50 _ _ _ rfl rfl BitVec.zero_and BitVec.zero_and BitVec.zero_and

theorem sacksend (ack : Bool) : Statement (.sacksend ack) :=
  of_row 51 _ _ _ rfl rfl (bitField_reserved _) BitVec.zero_and BitVec.zero_and

theorem sdsend : Statement .sdsend :=
  of_row 52 _ _ _ rfl rfl BitVec.zero_and BitVec.zero_and BitVec.zero_and

theorem sxferinit : Statement .sxferinit :=
  of_row 53 _ _ _ rfl rfl BitVec.zero_and BitVec.zero_and BitVec.zero_and

theorem saddrget : Statement .saddrget :=
  of_row 54 _ _ _ rfl rfl BitVec.zero_and BitVec.zero_and BitVec.zero_and

theorem sintp : Statement .sintp :=
  of_row 55 _ _ _ rfl rfl BitVec.zero_and BitVec.zero_and BitVec.zero_and

end Sys2Proof.Laws.WordForm
end

