-- ==== Sys2Proof/Laws/Starts.lean ====
section
/-! SUPPORT. What a start command or a helper built on one can do to the state, said once. -/

namespace Sys2Proof.Machine

/-- What a command of `startsMaster` may change, `s` before and `t` after (R173 to R176). -/
structure StartEffect (i : Instr) (s t : State) : Prop where
  frame : t = { s with
    targetAddress := t.targetAddress, currentCommand := t.currentCommand, txSize := t.txSize, rxSize := t.rxSize,
    txIndex := t.txIndex, rxIndex := t.rxIndex, receivedCrc := t.receivedCrc, computedCrc := t.computedCrc,
    masterCursor := t.masterCursor, slaveCursor := t.slaveCursor,
    flags := { s.flags with blk := t.flags.blk, pc := t.flags.pc, raw := t.flags.raw, pec := t.flags.pec,
                            tip := t.flags.tip },
    trace := t.trace, result := t.result, txbuf := t.txbuf }
  trace : ∃ acts : List Action, t.trace = s.trace ++ acts ∧ acts.length ≤ 3
  crc : s.flags.pec = false →
    (t.computedCrc = s.computedCrc ∧ t.receivedCrc = s.receivedCrc) ∨ (t.computedCrc = 0#8 ∧ t.receivedCrc = 0#8)
  tip : s.flags.tip = true → t.flags.tip = true
  pec : t.flags.pec = s.flags.pec ∨ (t.flags.pec = false ∧ ((∃ a b, i = .mquick a b) ∨ (∃ a n, i = .mi2cwr a n) ∨
    (∃ a n, i = .mi2crd a n) ∨ ∃ a m n, i = .mi2cwrrd a m n))
  pc : t.flags.pc = s.flags.pc ∨ t.flags.pc = false ∨ (∃ a c, i = .mpcall a c) ∨ (∃ a c n, i = .mbpcall a c n) ∨
    ∃ a m n, i = .mi2cwrrd a m n
  blk : t.flags.blk = s.flags.blk ∨ t.flags.blk = false ∨ (∃ a c n, i = .mblkwr a c n) ∨ (∃ a c, i = .mblkrd a c) ∨
    (∃ a c n, i = .mbpcall a c n) ∨ i = .arpgug ∨ (∃ a, i = .arpgud a) ∨ ∃ x, i = .arpassign x
  raw : t.flags.raw = s.flags.raw ∨ t.flags.raw = false ∨ (∃ a n, i = .mi2cwr a n) ∨ (∃ a n, i = .mi2crd a n) ∨
    ∃ a m n, i = .mi2cwrrd a m n
  slave : t.slaveCursor = s.slaveCursor ∨
    (t.slaveCursor = turnaroundCursor ∧ t.masterCursor = .readFirst ∧ ∃ a n, i = .mi2cwrrd a 1#8 n)
  index : s.txIndex ≤ s.txSize → t.txIndex ≤ t.txSize
  rx : (t.rxIndex = s.rxIndex ∧ t.rxSize = s.rxSize) ∨ t.rxIndex = 0#8
  handled : s.masterCursor.masterHandled = true → t.masterCursor.masterHandled = true
  buf : t.txbuf = s.txbuf ∨ (∃ x, i = .arpassign x ∧ t.txbuf = s.txbuf.writeBytes 0 (udidEncode s.udid x)) ∨
    ∃ x, i = .arpnotify x ∧ t.txbuf = (s.txbuf.write 0 0#8).write 1 0#8

theorem StartEffect.result (i : Instr) (s : State) (r : Result) : StartEffect i s { s with result := r } := by
  constructor <;> simp

theorem one_le_of_raw {n : Byte} (h : rawSizeOk n = true) : 1#8 ≤ n := by
  rw [rawSizeOk_iff] at h
  revert n
  decide

theorem zero_le_byte (n : Byte) : 0#8 ≤ n := by simp [BitVec.le_def]

/-- Everything a start command or helper can do to the state. -/
theorem start_effect (i : Instr) (hi : startsMaster i = true) (s : State) : Ends (StartEffect i s) (exec i s) := by
  have h0 : ∀ st, StartEffect i s { s with result := ⟨false, st, 0#8⟩ } := fun st => .result i s _
  cases i <;> simp only [startsMaster, Bool.false_eq_true] at hi <;> dsimp only [exec]
  all_goals
    clear hi
    refine ends_whenInited (fun hi => ?_) fun _ => .result _ s _
  case mi2cwr a n =>
    refine ends_startChecked h0 fun hn => ends_withTxByte fun b _ => ?_
    have := one_le_of_raw hn
    rw [arm_eq]; refine ends_next ?_
    constructor <;> (try simp [rowRaw]) <;> (try (repeat' split)) <;> simp [Cursor.masterHandled, this]
  case mi2crd a n =>
    refine ends_startChecked h0 fun hn => ?_
    rw [arm_eq]; refine ends_next ?_
    constructor <;> (try simp [rowRaw]) <;> (try (repeat' split)) <;> simp [Cursor.masterHandled]
  case mi2cwrrd a m n =>
    refine ends_startChecked h0 fun hn => ends_withTxByte fun b _ => ?_
    have := one_le_of_raw (Bool.and_eq_true _ _ ▸ hn).1
    rw [arm_eq]; refine ends_next ?_
    by_cases h1 : m = 1#8 <;> constructor <;> (try simp [rowRaw, h1]) <;> (try (repeat' split)) <;>
      (try simp_all [Cursor.masterHandled])
  case arpassign a =>
    refine ends_ite (fun _ => ends_finish (h0 _)) fun _ => ends_withUdidPacket fun _ => ?_
    refine ends_startChecked (fun st => by constructor <;> simp) fun hn => ?_
    rw [arm_eq]; refine ends_next ?_
    constructor <;> (try simp +contextual [rowCommand, Cursor.masterHandled])
  case arpnotify a =>
    refine ends_ite (fun _ => ends_finish (h0 _)) fun _ => ?_
    refine ends_startChecked (fun st => by constructor <;> simp) fun hn => ?_
    rw [arm_eq]; refine ends_next ?_
    constructor <;> (try simp +contextual [rowCommand, Cursor.masterHandled])
  case mwrite a c n =>
    refine ends_startChecked h0 fun hn => ?_
    rw [arm_eq]; refine ends_next ?_
    by_cases hs : n = 1#8 <;> cases hp : s.flags.pec <;> constructor <;>
      simp +contextual [rowCommand, Cursor.masterHandled, hp, hs, zero_le_byte]
  all_goals
    refine ends_startChecked h0 fun hn => ?_
    rw [arm_eq]; refine ends_next ?_
    cases hp : s.flags.pec <;> constructor <;>
      simp +contextual [rowQuick, rowSendByte, rowReceiveByte, rowCommand, Cursor.masterHandled, hp, zero_le_byte]

end Sys2Proof.Machine
end

