-- ==== Sys2Proof/Tests/Slice0.lean ====
section
/-! SUPPORT. The model's own tests. Every expected value is written from spec/: 95_test_vectors.md and
96_test_vectors_slave_arp.md, whose vectors are derived from the rules by hand, or the rule a test names. -/

namespace Sys2Proof.Tests

open Sys2Proof.Machine

/-! ## The command word -/

/-- The masks of R85, one for each format of R81. -/
theorem test_format_masks :
    Format.f0.mask = 0xFFFFFFFF#32 ∧ Format.ft.mask = 0xFFFF80FF#32 ∧ Format.ftb.mask = 0xFF0080FF#32 ∧
    Format.ftbit.mask = 0xFFFE80FF#32 ∧ Format.ftbc.mask = 0x000080FF#32 ∧ Format.ftc.mask = 0x00FF80FF#32 ∧
    Format.ftnn.mask = 0x000080FF#32 ∧ Format.fa.mask = 0xFFFF00FF#32 ∧ Format.fabit.mask = 0xFFFFFEFF#32 ∧
    Format.fc.mask = 0x00FFFFFF#32 := by decide

theorem test_row_count : opcodeRows.length = 56 := by decide

/-- WellFormed refuses an opcode that has no row (95_test_vectors.md section 2.2). -/
theorem test_wf_unlisted_opcode :
    wellFormedWord 0x00000000#32 = false ∧ wellFormedWord 0x0000000B#32 = false ∧
    wellFormedWord 0x0000001D#32 = false ∧ wellFormedWord 0x00000029#32 = false ∧
    wellFormedWord 0x0000003F#32 = false ∧ wellFormedWord 0x00000047#32 = false ∧
    wellFormedWord 0xFFFFFFFF#32 = false := by decide

/-- WellFormed refuses a set reserved bit, one word for each format and operand byte that has one (section 2.2). -/
theorem test_wf_reserved_bits :
    wellFormedWord 0x00000101#32 = false ∧ wellFormedWord 0x01000003#32 = false ∧
    wellFormedWord 0x00008012#32 = false ∧ wellFormedWord 0x00010012#32 = false ∧
    wellFormedWord 0x00025010#32 = false ∧ wellFormedWord 0x0100AB11#32 = false ∧
    wellFormedWord 0x0200D013#32 = false ∧ wellFormedWord 0x0301501A#32 = false ∧
    wellFormedWord 0x0201801C#32 = false ∧ wellFormedWord 0x00010019#32 = false ∧
    wellFormedWord 0x0000023B#32 = false ∧ wellFormedWord 0x02000131#32 = false := by decide

theorem test_wf_legal_words :
    wellFormedWord 0x00000001#32 = true ∧ wellFormedWord 0xFFFF7F13#32 = true ∧
    wellFormedWord 0xFFFF7F1C#32 = true := by decide

/-- The decoder rejects by name (R83, R84). -/
theorem test_decode_rejects :
    decode 0x0000004E#32 = .error (.illegalOpcode 0x4E#8) ∧ decode 0x000000FF#32 = .error (.illegalOpcode 0xFF#8) ∧
    decode 0x0000011F#32 = .error (.reservedBitSet 0x1F#8) ∧ decode 0x0002D010#32 = .error (.reservedBitSet 0x10#8) ∧
    decode 0x00000243#32 = .error (.reservedBitSet 0x43#8) ∧ decode 0x00025A30#32 = .error (.reservedBitSet 0x30#8) ∧
    decodeTableWord 32 0x00025010 = none ∧ decodeTableWord 40 0x100000003 = none := by decide

/-- 10 words of 95_test_vectors.md section 2.1, every command of the family among them. -/
theorem test_decode_configuration :
    decodeTableWord 32 0x00000001 = some .minit ∧
    decodeTableWord 32 0x00000002 = some .sinit ∧
    decodeTableWord 32 0x00000003 = some .pecen ∧
    decodeTableWord 32 0x00000004 = some .pecdis ∧
    decodeTableWord 32 0x00000005 = some .arpen ∧
    decodeTableWord 32 0x00000006 = some .arpdis ∧
    decodeTableWord 32 0x00000007 = some .statget ∧
    decodeTableWord 32 0x00000008 = some .rxcnt ∧
    decodeTableWord 32 0x00000009 = some .minten ∧
    decodeTableWord 32 0x0000000A = some .sinten := by decide

/-- 17 words of 95_test_vectors.md section 2.1, every command of the family among them. -/
theorem test_decode_master :
    decodeTableWord 32 0x00015010 = some (.mquick 0x50#7 true) ∧
    decodeTableWord 32 0x00AB5011 = some (.msendb 0x50#7 0xAB#8) ∧
    decodeTableWord 32 0x00005A12 = some (.mrecvb 0x5A#7) ∧
    decodeTableWord 32 0x02065A13 = some (.mwrite 0x5A#7 0x06#8 0x02#8) ∧
    decodeTableWord 32 0x01065A14 = some (.mread 0x5A#7 0x06#8 0x01#8) ∧
    decodeTableWord 32 0x03105A15 = some (.mblkwr 0x5A#7 0x10#8 0x03#8) ∧
    decodeTableWord 32 0x00105016 = some (.mblkrd 0x50#7 0x10#8) ∧
    decodeTableWord 32 0x00205017 = some (.mpcall 0x50#7 0x20#8) ∧
    decodeTableWord 32 0x02305018 = some (.mbpcall 0x50#7 0x30#8 0x02#8) ∧
    decodeTableWord 32 0x00005A19 = some (.mnotify 0x5A#8) ∧
    decodeTableWord 32 0x0300501A = some (.mi2cwr 0x50#7 0x03#8) ∧
    decodeTableWord 32 0x0400501B = some (.mi2crd 0x50#7 0x04#8) ∧
    decodeTableWord 32 0x0203501C = some (.mi2cwrrd 0x50#7 0x03#8 0x02#8) ∧
    decodeTableWord 32 0x0000001F = some .mintp ∧
    decodeTableWord 32 0x00007F10 = some (.mquick 0x7F#7 false) ∧
    decodeTableWord 32 0xFFFF7F13 = some (.mwrite 0x7F#7 0xFF#8 0xFF#8) ∧
    decodeTableWord 32 0xFFFF7F1C = some (.mi2cwrrd 0x7F#7 0xFF#8 0xFF#8) := by decide

/-- 9 words of 95_test_vectors.md section 2.1, every command of the family among them. -/
theorem test_decode_arp :
    decodeTableWord 32 0x00000020 = some .arpgug ∧
    decodeTableWord 32 0x00003121 = some (.arpgud 0x31#7) ∧
    decodeTableWord 32 0x00000022 = some .arprstg ∧
    decodeTableWord 32 0x00003123 = some (.arprstd 0x31#7) ∧
    decodeTableWord 32 0x00006224 = some (.arpassign 0x62#8) ∧
    decodeTableWord 32 0x00005A25 = some (.arpnotify 0x5A#8) ∧
    decodeTableWord 32 0x00000026 = some .arpprep ∧
    decodeTableWord 32 0x00006227 = some (.udidenc 0x62#8) ∧
    decodeTableWord 32 0x00000028 = some .udiddec := by decide

/-- 16 words of 95_test_vectors.md section 2.1, every command of the family among them. -/
theorem test_decode_slave_setters :
    decodeTableWord 32 0x00005A30 = some (.saddrset 0x5A#7 false) ∧
    decodeTableWord 32 0x00012C30 = some (.saddrset 0x2C#7 true) ∧
    decodeTableWord 32 0x02000031 = some (.stxset 0x02#8) ∧
    decodeTableWord 32 0x20000032 = some (.srxset 0x20#8) ∧
    decodeTableWord 32 0x00000033 = some .scmdget ∧
    decodeTableWord 32 0x00000034 = some .spcen ∧
    decodeTableWord 32 0x00000035 = some .spcdis ∧
    decodeTableWord 32 0x00000036 = some .sblken ∧
    decodeTableWord 32 0x00000037 = some .sblkdis ∧
    decodeTableWord 32 0x00000038 = some .si2cen ∧
    decodeTableWord 32 0x00000039 = some .si2cdis ∧
    decodeTableWord 32 0x0000003A = some .sarget ∧
    decodeTableWord 32 0x0000013B = some (.sarset true) ∧
    decodeTableWord 32 0x0000003C = some .savget ∧
    decodeTableWord 32 0x0000013D = some (.savset true) ∧
    decodeTableWord 32 0x0000003E = some .sudidset := by decide

/-- 8 words of 95_test_vectors.md section 2.1, every command of the family among them. -/
theorem test_decode_slave_acknowledge :
    decodeTableWord 32 0x00000040 = some .smacken ∧
    decodeTableWord 32 0x00000041 = some .smackdis ∧
    decodeTableWord 32 0x00000042 = some .smackget ∧
    decodeTableWord 32 0x00000143 = some (.sacksend true) ∧
    decodeTableWord 32 0x00000044 = some .sdsend ∧
    decodeTableWord 32 0x00000045 = some .sxferinit ∧
    decodeTableWord 32 0x00000046 = some .saddrget ∧
    decodeTableWord 32 0x0000004F = some .sintp := by decide

/-! ## The CRC and the packet -/

/-- The values of 95_test_vectors.md section 2.3. -/
theorem test_crc_values :
    crc8 0#8 [] = 0x00#8 ∧ crc8 0x5A#8 [] = 0x5A#8 ∧ crc8 0#8 [0x01#8] = 0x07#8 ∧ crc8 0#8 [0x80#8] = 0x89#8 ∧
    crc8 0#8 [0xFF#8] = 0xF3#8 ∧ crc8 0xFF#8 [0#8] = 0xF3#8 ∧ crc8 0x09#8 [0x34#8] = 0xB3#8 ∧
    crc8 0#8 [0xB4#8, 0x06#8, 0x34#8, 0x12#8] = 0x6E#8 ∧
    crc8 0#8 [0x31#8, 0x32#8, 0x33#8, 0x34#8, 0x35#8, 0x36#8, 0x37#8, 0x38#8, 0x39#8] = 0xF4#8 := by decide +kernel

/-- The first UDID row of 96_test_vectors_slave_arp.md section 2.1. -/
def someUdid : Udid :=
  { cap := 0xC1#8, ver := 0x08#8, vendor := 0x1234#16, device := 0x5678#16, iface := 0x0004#16,
    subvendor := 0x9ABC#16, subdevice := 0xDEF0#16, vspec := 0x01020304#32 }

/-- Its packet, with address byte 0x62. -/
def somePacket : List Byte :=
  [0xC1#8, 0x08#8, 0x12#8, 0x34#8, 0x56#8, 0x78#8, 0x00#8, 0x04#8, 0x9A#8, 0xBC#8, 0xDE#8, 0xF0#8, 0x01#8, 0x02#8,
   0x03#8, 0x04#8, 0x62#8]

theorem test_udid_packet :
    udidEncode someUdid 0x62#8 = somePacket ∧ udidDecode somePacket = (someUdid, 0x62#8) := by decide

/-! ## One step of each command -/

/-- A freshly initialised block. -/
def ready : State := { State.reset with inited := true }

def pecOn : Flags := { Flags.clear with pec := true }

/-- `ready` with PEC on. -/
def readyPec : State := { ready with flags := pecOn }

/-- The outcome is a next state with this property. -/
def ends (o : Out) (p : State → Bool) : Bool :=
  match o with
  | .next t => p t
  | .fault _ => false
  | .refused _ => false

/-- The result, the trace, the FLAGS word and the two cursors of a state, as the rows of the vectors show them. -/
def shows (st : Status) (d : Byte) (acts : List Action) (flags : BitVec 16) (m sl : Cursor) (t : State) : Bool :=
  decide (t.result = ⟨false, st, d⟩) && decide (t.trace = acts) && decide (t.flags.word = flags) &&
    decide (t.masterCursor = m) && decide (t.slaveCursor = sl)

/-- The counters and the CRC of a state. -/
def counts (txi txs rxi rxs crc : Byte) (t : State) : Bool :=
  decide (t.txIndex = txi) && decide (t.txSize = txs) && decide (t.rxIndex = rxi) && decide (t.rxSize = rxs) &&
    decide (t.computedCrc = crc)

/-- `ready` with TXBUF[0..2] = A1 A2 A3, as in 95_test_vectors.md section 3.1. -/
def armed : State := { ready with txbuf := [(0, 0xA1#8), (1, 0xA2#8), (2, 0xA3#8)] }

/-- A block with every field in use, to see what an init clears. -/
def used : State :=
  { armed with
    txSize := 3#8, txIndex := 2#8, rxSize := 4#8, rxIndex := 1#8, ownAddress := 0x5A#7, targetAddress := 0x50#7,
    currentCommand := 0x10#8, computedCrc := 0x33#8, receivedCrc := 0x44#8, masterCursor := .readNext,
    slaveCursor := .readPec, saddr0 := 0x5A#7, saddr1 := 0x2C#7, udidBound := true, udid := someUdid,
    flags := ⟨true, true, true, true, true, true, true, true⟩ }

-- R40, R121, R122; 95_test_vectors.md section 2.4.
theorem test_minit : ends (exec .minit used) (fun t => shows .ok 0#8 [] 0#16 .idle .idle t &&
    counts 0#8 0#8 0#8 0#8 0#8 t && decide (t.udid = someUdid) && decide (saddrWord t = 0#32) &&
    decide (ctrlWord t = 1#32)) = true := by decide
theorem test_sinit : ends (exec .sinit used) (fun t => shows .ok 0#8 [.sEnable] 0#16 .idle .idle t &&
    counts 0#8 0#8 0#8 0#8 0#8 t && decide (t.txbuf = used.txbuf)) = true := by decide
theorem test_pecen : ends (exec .pecen ready) (shows .ok 0#8 [] 0x01#16 .idle .idle) = true := by decide
theorem test_pecen_before_init : ends (exec .pecen State.reset) (fun t =>
    decide (t = { State.reset with result := ⟨true, .ok, 0#8⟩ })) = true := by decide
theorem test_pecdis : ends (exec .pecdis used) (shows .ok 0#8 [] 0xFE#16 .readNext .readPec) = true := by decide
theorem test_arpen : ends (exec .arpen readyPec) (shows .ok 0#8 [] 0x81#16 .idle .idle) = true := by decide
theorem test_arpdis : ends (exec .arpdis used) (shows .ok 0#8 [] 0x7F#16 .readNext .readPec) = true := by decide
theorem test_statget : ends (exec .statget used) (shows .transferInProgress 0#8 [] 0xFF#16 .readNext .readPec) = true ∧
    ends (exec .statget ready) (shows .transferComplete 0#8 [] 0#16 .idle .idle) = true := by decide
theorem test_rxcnt : ends (exec .rxcnt used) (shows .ok 1#8 [] 0xFF#16 .readNext .readPec) = true := by decide
theorem test_minten : ends (exec .minten ready) (shows .ok 0#8 [.mIen] 0#16 .idle .idle) = true := by decide
theorem test_sinten : ends (exec .sinten ready) (shows .ok 0#8 [.sIen] 0#16 .idle .idle) = true := by decide

-- 95_test_vectors.md section 3.1.
theorem test_mquick : ends (exec (.mquick 0x50#7 true) readyPec) (fun t =>
    shows .ok 0#8 [.mAddr 0x50#7 true, .mCtl .quickCommand] 0x08#16 .idle .idle t &&
    counts 0#8 0#8 0#8 0#8 0#8 t) = true := by decide
theorem test_msendb : ends (exec (.msendb 0x50#7 0xAB#8) readyPec) (fun t =>
    shows .ok 0#8 [.mAddr 0x50#7 false, .mPut 0xAB#8, .mCtl .sendStart] 0x09#16 .writeFinal .idle t &&
    counts 0#8 0#8 0#8 0#8 0x40#8 t) = true := by decide +kernel
theorem test_mrecvb : ends (exec (.mrecvb 0x5A#7) readyPec) (fun t =>
    shows .ok 0#8 [.mAddr 0x5A#7 true, .mCtl .recvStart] 0x09#16 .readFinal .idle t &&
    counts 0#8 0#8 0#8 1#8 0x02#8 t) = true := by decide +kernel
theorem test_mwrite : ends (exec (.mwrite 0x5A#7 6#8 1#8) ready) (fun t =>
    shows .ok 0#8 [.mAddr 0x5A#7 false, .mPut 6#8, .mCtl .sendStart] 0x08#16 .writeFinal .idle t &&
    counts 0#8 1#8 0#8 0#8 0#8 t) = true := by decide
theorem test_mwrite_size_3 : ends (exec (.mwrite 0x5A#7 6#8 3#8) readyPec)
    (shows .dataSizeError 0#8 [] 0x01#16 .idle .idle) = true := by decide
theorem test_mread : ends (exec (.mread 0x5A#7 6#8 2#8) readyPec) (fun t =>
    shows .ok 0#8 [.mAddr 0x5A#7 false, .mPut 6#8, .mCtl .sendStart] 0x09#16 .readFirst .idle t &&
    counts 0#8 0#8 0#8 2#8 0x09#8 t) = true := by decide +kernel
theorem test_mblkwr : ends (exec (.mblkwr 0x5A#7 0x10#8 0x20#8) readyPec) (fun t =>
    shows .ok 0#8 [.mAddr 0x5A#7 false, .mPut 0x10#8, .mCtl .sendStart] 0x0D#16 .writeBlockSize .idle t &&
    counts 0#8 32#8 0#8 0#8 0x6B#8 t) = true := by decide +kernel
theorem test_mblkrd : ends (exec (.mblkrd 0x50#7 0x10#8) readyPec) (fun t =>
    shows .ok 0#8 [.mAddr 0x50#7 false, .mPut 0x10#8, .mCtl .sendStart] 0x0D#16 .readFirst .idle t &&
    counts 0#8 0#8 0#8 3#8 0x68#8 t) = true := by decide +kernel
theorem test_mpcall : ends (exec (.mpcall 0x50#7 0x20#8) readyPec) (fun t =>
    shows .ok 0#8 [.mAddr 0x50#7 false, .mPut 0x20#8, .mCtl .sendStart] 0x0B#16 .writeNext .idle t &&
    counts 0#8 2#8 0#8 2#8 0xF8#8 t) = true := by decide +kernel
theorem test_mbpcall : ends (exec (.mbpcall 0x50#7 0x30#8 2#8) readyPec) (fun t =>
    shows .ok 0#8 [.mAddr 0x50#7 false, .mPut 0x30#8, .mCtl .sendStart] 0x0F#16 .writeBlockSize .idle t &&
    counts 0#8 2#8 0#8 3#8 0x88#8 t) = true := by decide +kernel
theorem test_mnotify : ends (exec (.mnotify 0x5A#8) readyPec) (fun t =>
    shows .ok 0#8 [.mAddr 0x08#7 false, .mPut 0x5A#8, .mCtl .sendStart] 0x09#16 .writeNext .idle t &&
    counts 0#8 2#8 0#8 0#8 0xD6#8 t) = true := by decide +kernel
theorem test_mi2cwr : ends (exec (.mi2cwr 0x50#7 2#8) { armed with flags := pecOn }) (fun t =>
    shows .ok 0#8 [.mAddr 0x50#7 false, .mPut 0xA1#8, .mCtl .sendStart] 0x18#16 .writeFinal .idle t &&
    counts 1#8 2#8 0#8 0#8 0#8 t) = true := by decide
theorem test_mi2crd : ends (exec (.mi2crd 0x50#7 1#8) readyPec) (fun t =>
    shows .ok 0#8 [.mAddr 0x50#7 true, .mCtl .singleReceive] 0x18#16 .readWait .idle t &&
    counts 0#8 0#8 0#8 1#8 0#8 t) = true := by decide
theorem test_mi2cwrrd : ends (exec (.mi2cwrrd 0x50#7 3#8 3#8) armed) (fun t =>
    shows .ok 0#8 [.mAddr 0x50#7 false, .mPut 0xA1#8, .mCtl .sendStart] 0x1A#16 .writeNext .idle t &&
    counts 1#8 3#8 0#8 3#8 0#8 t) = true := by decide
theorem test_mi2cwrrd_one_byte : ends (exec (.mi2cwrrd 0x50#7 1#8 1#8) armed) (fun t =>
    decide (t.masterCursor = .readFirst) && counts 1#8 1#8 0#8 1#8 0#8 t) = true := by decide

-- 95_test_vectors.md E7, row 3: a block size of 33 is kept and not folded.
theorem test_mintp_block_size_33 : ends (exec .mintp { readyPec with
      masterCursor := .readBlockSize, rxSize := 3#8, computedCrc := 0x71#8,
      inputs := { Inputs.quiet with data := 33#8 } }) (fun t =>
    shows .dataSizeError 0#8 [.mIclrData, .mGet, .mCtl .recvFinish] 0x01#16 .readErrorStop .idle t &&
    counts 0#8 0#8 0#8 33#8 0x71#8 t) = true := by decide
-- 95_test_vectors.md E3, row 2: a NACK with the bus busy leaves TIP 1.
theorem test_mintp_nack_bus_busy : ends (exec .mintp { ready with
      masterCursor := .writeNext, txSize := 2#8, flags := { Flags.clear with tip := true },
      inputs := { Inputs.quiet with errAddrNack := true, busBusy := true } })
    (shows .addressAckError 0#8 [.mIclrData, .mCtl .errorStop] 0x08#16 .idle .idle) = true := by decide

-- 96_test_vectors_slave_arp.md section 2.
theorem test_arpgug : ends (exec .arpgug readyPec) (fun t =>
    shows .ok 0#8 [.mAddr 0x61#7 false, .mPut 0x03#8, .mCtl .sendStart] 0x0D#16 .readFirst .idle t &&
    counts 0#8 0#8 0#8 3#8 0xCE#8 t) = true := by decide +kernel
theorem test_arpgud : ends (exec (.arpgud 0x31#7) readyPec) (fun t =>
    shows .ok 0#8 [.mAddr 0x61#7 false, .mPut 0x63#8, .mCtl .sendStart] 0x0D#16 .readFirst .idle t &&
    counts 0#8 0#8 0#8 3#8 0xE9#8 t) = true := by decide +kernel
theorem test_arprstg : ends (exec .arprstg readyPec) (fun t =>
    shows .ok 0#8 [.mAddr 0x61#7 false, .mPut 0x02#8, .mCtl .sendStart] 0x09#16 .writeFinal .idle t &&
    counts 0#8 0#8 0#8 0#8 0xC9#8 t) = true := by decide +kernel
theorem test_arprstd : ends (exec (.arprstd 0x31#7) readyPec) (fun t =>
    shows .ok 0#8 [.mAddr 0x61#7 false, .mPut 0x62#8, .mCtl .sendStart] 0x09#16 .writeFinal .idle t &&
    counts 0#8 0#8 0#8 0#8 0xEE#8 t) = true := by decide +kernel
theorem test_arpassign : ends (exec (.arpassign 0x62#8) { readyPec with
      udid := someUdid, udidWritten := .full }) (fun t =>
    shows .ok 0#8 [.mAddr 0x61#7 false, .mPut 0x04#8, .mCtl .sendStart] 0x0D#16 .writeBlockSize .idle t &&
    counts 0#8 17#8 0#8 0#8 0xDB#8 t && decide (t.txbuf.readBytes 0 17 = .ok somePacket)) = true := by decide +kernel
theorem test_arpnotify : ends (exec (.arpnotify 0x5A#8) { armed with flags := pecOn }) (fun t =>
    shows .ok 0#8 [.mAddr 0x08#7 false, .mPut 0x5A#8, .mCtl .sendStart] 0x09#16 .writeNext .idle t &&
    decide (t.txbuf = [(0, 0#8), (1, 0#8), (2, 0xA3#8)])) = true := by decide +kernel
theorem test_arpprep : ends (exec .arpprep ready) (fun t =>
    shows .ok 0#8 [.mAddr 0x61#7 false, .mPut 0x01#8, .mCtl .singleSend] 0x08#16 .idle .idle t) = true := by decide
-- R312: a model's caller may set the seven parameters.
theorem test_arprstd_other_params : ends (exec (.arprstd 0x31#7) { ready with
      arpParams := { arpDefaults with defaultAddr := 0x44#7, directedReset := 0x01#8 } })
    (shows .ok 0#8 [.mAddr 0x44#7 false, .mPut 0x63#8, .mCtl .singleSend] 0x08#16 .idle .idle) = true := by decide
theorem test_udidenc : ends (exec (.udidenc 0x62#8) { ready with udid := someUdid, udidWritten := .full }) (fun t =>
    shows .ok 0#8 [] 0#16 .idle .idle t && decide (t.txbuf.readBytes 0 17 = .ok somePacket)) = true := by decide
theorem test_udiddec : ends (exec .udiddec { ready with rxbuf := Memory.writeBytes [] 0 somePacket }) (fun t =>
    shows .ok 0x62#8 [] 0#16 .idle .idle t && decide (t.udid = someUdid)) = true := by decide

-- 95_test_vectors.md section 2.4.
theorem test_saddrset : ends (exec (.saddrset 0x2C#7 true) { ready with saddr0 := 0x5A#7 }) (fun t =>
    shows .ok 0#8 [.sAddr true 0x2C#7] 0#16 .idle .idle t && decide (saddrWord t = 0x00002C5A#32)) = true := by decide
theorem test_stxset : ends (exec (.stxset 2#8) used) (fun t =>
    shows .ok 0#8 [] 0xFF#16 .readNext .readPec t && counts 0#8 2#8 1#8 4#8 0x33#8 t) = true := by decide
theorem test_srxset : ends (exec (.srxset 0x20#8) used) (fun t =>
    shows .ok 0#8 [] 0xFF#16 .readNext .readPec t && counts 2#8 3#8 0#8 32#8 0x33#8 t) = true := by decide
theorem test_scmdget : ends (exec .scmdget used) (shows .ok 0x10#8 [] 0xFF#16 .readNext .readPec) = true := by decide
theorem test_spcen : ends (exec .spcen ready) (shows .ok 0#8 [] 0x02#16 .idle .idle) = true := by decide
theorem test_spcdis : ends (exec .spcdis used) (shows .ok 0#8 [] 0xFD#16 .readNext .readPec) = true := by decide
theorem test_sblken : ends (exec .sblken ready) (shows .ok 0#8 [] 0x04#16 .idle .idle) = true := by decide
theorem test_sblkdis : ends (exec .sblkdis used) (shows .ok 0#8 [] 0xFB#16 .readNext .readPec) = true := by decide
theorem test_si2cen : ends (exec .si2cen readyPec) (shows .ok 0#8 [] 0x11#16 .idle .idle) = true := by decide
theorem test_si2cdis : ends (exec .si2cdis used) (shows .ok 0#8 [] 0xEF#16 .readNext .readPec) = true := by decide
theorem test_sarget : ends (exec .sarget used) (shows .ok 1#8 [] 0xFF#16 .readNext .readPec) = true := by decide
theorem test_sarset : ends (exec (.sarset true) ready) (shows .ok 0#8 [] 0x20#16 .idle .idle) = true ∧
    ends (exec (.sarset false) used) (shows .ok 0#8 [] 0xDF#16 .readNext .readPec) = true := by decide
theorem test_savget : ends (exec .savget ready) (shows .ok 0#8 [] 0#16 .idle .idle) = true := by decide
theorem test_savset : ends (exec (.savset true) ready) (shows .ok 0#8 [] 0x40#16 .idle .idle) = true ∧
    ends (exec (.savset false) used) (shows .ok 0#8 [] 0xBF#16 .readNext .readPec) = true := by decide
theorem test_sudidset : ends (exec .sudidset ready) (fun t =>
    shows .ok 0#8 [] 0#16 .idle .idle t && decide (ctrlWord t = 3#32)) = true := by decide
theorem test_smacken : ends (exec .smacken ready) (shows .ok 0#8 [.sAckOvr true] 0#16 .idle .idle) = true := by decide
theorem test_smackdis : ends (exec .smackdis ready) (shows .ok 0#8 [.sAckOvr false] 0#16 .idle .idle) = true := by decide
theorem test_smackget : ends (exec .smackget { ready with inputs := { Inputs.quiet with ackOverride := true } })
    (shows .ok 1#8 [] 0#16 .idle .idle) = true := by decide
theorem test_sacksend : ends (exec (.sacksend false) ready) (shows .ok 0#8 [.sAckVal false] 0#16 .idle .idle) = true := by
  decide
-- 96_test_vectors_slave_arp.md S12: not ready, then the byte, straight to WriteDone.
theorem test_sdsend_not_ready : ends (exec .sdsend { ready with slaveCursor := .slavePostCommand })
    (shows .slaveNotReady 0#8 [] 0#16 .idle .slavePostCommand) = true := by decide
theorem test_sdsend : ends (exec .sdsend { ready with
      slaveCursor := .slavePostCommand, txSize := 1#8, txbuf := [(0, 0x42#8)] }) (fun t =>
    shows .ok 0#8 [.sPut 0x42#8] 0x08#16 .idle .writeDone t && counts 1#8 1#8 0#8 0#8 0#8 t) = true := by decide
theorem test_sxferinit : ends (exec .sxferinit used) (fun t =>
    shows .ok 0#8 [] 0xF7#16 .readNext .idle t && counts 0#8 0#8 0#8 4#8 0#8 t) = true := by decide
theorem test_saddrget : ends (exec .saddrget { ready with inputs := { Inputs.quiet with stOwn2 := true } })
    (shows .secondaryAddressMatched 0#8 [] 0#16 .idle .idle) = true := by decide
-- 96_test_vectors_slave_arp.md S8, row 2: the announced size is adopted and folded.
theorem test_sintp_block_size : ends (exec .sintp { ready with
      slaveCursor := .slavePostCommand, rxSize := 32#8, computedCrc := 0x6B#8,
      flags := { Flags.clear with pec := true, blk := true, tip := true },
      inputs := { Inputs.quiet with intData := true, stRreq := true, data := 3#8 } }) (fun t =>
    shows .ok 0#8 [.sIclrData, .sGet] 0x0D#16 .idle .readNext t && counts 0#8 0#8 0#8 3#8 0x1F#8 t) = true := by decide +kernel
-- 96_test_vectors_slave_arp.md S2, row 4: a wrong PEC byte leaves the cursor.
theorem test_sintp_wrong_pec : ends (exec .sintp { ready with
      slaveCursor := .readPec, rxSize := 2#8, rxIndex := 2#8, computedCrc := 0x6E#8,
      flags := { Flags.clear with pec := true, tip := true },
      inputs := { Inputs.quiet with intData := true, stRreq := true, data := 0x6F#8 } }) (fun t =>
    shows .pecError 0#8 [.sIclrData, .sGet] 0x09#16 .idle .readPec t && decide (t.receivedCrc = 0x6F#8)) = true := by
  decide

/-- A step runs the command the next host step writes (R75, R80). -/
theorem test_step_runs : ends (step ((State.reset).withFetchWord 32 0x00000001)) (fun t =>
    t.inited && decide (t.schedule = [])) = true := by decide


/-! ## Witnesses: for each obligation with hypotheses, concrete values that meet them, clause by clause -/

/-- `s` with one bus access scheduled. -/
def accessing (s : State) (w : Width) (offset : Nat) (op : BusOp) : State :=
  { s with schedule := [.access w offset op .quiet] }

/-- `s` with one command word scheduled. -/
def commanded (s : State) (w : Word) : State := accessing s .word 0 (.write w)

/-- The hypothesis of the window statements: the next host step is this access. -/
abbrev nextAccess (s : State) (w : Width) (offset : Nat) (op : BusOp) : Prop :=
  s.schedule = .access w offset op .quiet :: []

/-- A block in the middle of a master transaction at this cursor. -/
def masterAt (c : Cursor) : State := { armed with masterCursor := c, txSize := 3#8, rxSize := 4#8 }

/-- A block whose transport shows these inputs. -/
def sensing (s : State) (x : Inputs) : State := { s with inputs := x }

theorem witness_EncodeInvertsDecode : decode 0x00000003#32 = .ok .pecen ∧
    decode 0xFFFF7F13#32 = .ok (.mwrite 0x7F#7 0xFF#8 0xFF#8) := by decide

theorem witness_DecodableWordsAreTheRowsWords : ⟨0x03#8, "PECEN", .f0⟩ ∈ opcodeRows ∧
    0x00000003#32 &&& Format.f0.mask = OpcodeRow.matchWord ⟨0x03#8, "PECEN", .f0⟩ := by decide

theorem witness_StepRunsTheDecodedCommand : nextAccess (commanded ready 3#32) .word 0 (.write 3#32) ∧
    decode 3#32 = .ok .pecen := by decide

theorem witness_IllegalWordIsCmdErr :
    (nextAccess (commanded ready 0x0B#32) .word 0 (.write 0x0B#32) ∧
      ∀ r ∈ opcodeRows, 0x0B#32 &&& r.format.mask ≠ r.matchWord) ∧
    (nextAccess (commanded State.reset 3#32) .word 0 (.write 3#32) ∧ State.reset.inited = false ∧
      (3#32).extractLsb' 0 8 ≠ 0x01#8 ∧ (3#32).extractLsb' 0 8 ≠ 0x02#8) := by decide

theorem witness_OnlyInitsRunBeforeInit :
    (({ used with schedule := [.hardwareReset] } : State).schedule = .hardwareReset :: [] ∧ used.inited = true ∧
      ends (step { used with schedule := [.hardwareReset] }) (fun t => !t.inited) = true) ∧
    (ready.inited = true ∧ ends (exec .pecen ready) (·.inited) = true) ∧
    (State.reset.inited = false ∧ ends (exec .minit State.reset) (·.inited) = true) ∧
    Instr.pecen ≠ .minit ∧ Instr.pecen ≠ .sinit := by decide

theorem witness_ResetIsQuiet : State.reset.schedule = [] ∧
    ({ used with schedule := [.hardwareReset] } : State).schedule = .hardwareReset :: [] := by decide

theorem used_good : used.Good :=
  ⟨by decide, by decide, by decide, by decide, .inl (by decide)⟩

theorem witness_StepKeepsGood : ∃ t, (commanded used 3#32).Good ∧ step (commanded used 3#32) = .next t :=
  ⟨_, ⟨used_good.1, used_good.2, used_good.3, used_good.4, used_good.5⟩, rfl⟩

/-- The status codes of R94, in its order. -/
def statusNumbers : List (Status × Nat) :=
  [(.ok, 0), (.timeout, 1), (.peripheralBusy, 2), (.busBusy, 3), (.arbitrationLost, 4), (.addressAckError, 5),
    (.dataAckError, 6), (.pecError, 7), (.dataSizeError, 8), (.masterError, 9), (.slaveError, 10),
    (.quickCommandZero, 11), (.quickCommandOne, 12), (.firstByte, 13), (.primaryAddressMatched, 14),
    (.secondaryAddressMatched, 15), (.transferInProgress, 16), (.transferComplete, 17), (.slaveNotReady, 18)]

/-- The cursor codes of R27, in its order. -/
def cursorNumbers : List (Cursor × Nat) :=
  [(.idle, 0), (.slavePostCommand, 1), (.writeBlockSize, 2), (.writeNext, 3), (.writeFinal, 4), (.writeDone, 5),
    (.readOne, 6), (.readFirst, 7), (.readBlockSize, 8), (.readNext, 9), (.readFinal, 10), (.readWait, 11),
    (.readPec, 12), (.readDone, 13), (.readErrorStop, 14), (.unused, 15)]

theorem test_status_codes : ∀ p ∈ statusNumbers, p.1.code.toNat = p.2 := by decide

theorem test_cursor_codes : (∀ p ∈ cursorNumbers, p.1.code.toNat = p.2) ∧
    ∀ c : BitVec 4, (Cursor.ofCode c).code = c := by decide

/-- The table of R94, its first and last code looked up, and a scheduled read of each of the four registers. -/
theorem witness_PackedRegistersRead :
    (∀ numbers ∈ [statusNumbers],
      (ready.result.status, 0) ∈ numbers ∧
        (({ ready with result := ⟨false, .slaveNotReady, 0#8⟩ } : State).result.status, 18) ∈ numbers) ∧
    ∀ offset ∈ [0x04, 0x08, 0x38, 0x3C], nextAccess (accessing used .word offset .read) .word offset .read := by decide

/-- The table of R27, both cursors of `used` looked up, and reads of the last register and of both ends of the reserved
range. -/
theorem witness_OneFieldRegistersRead :
    (∀ numbers ∈ [cursorNumbers], (used.masterCursor, 9) ∈ numbers ∧ (used.slaveCursor, 12) ∈ numbers) ∧
    (nextAccess (accessing used .word 0x10 .read) .word 0x10 .read ∧ (0x10, 12) ∈ [(0x0C, 9), (0x10, 12)]) ∧
    (nextAccess (accessing used .word 0x5C .read) .word 0x5C .read ∧
      (0x5C, used.udid.vspec.toNat) ∈ [(0x5C, used.udid.vspec.toNat)]) ∧
    (nextAccess (accessing used .word 0x60 .read) .word 0x60 .read ∧ 0x60 % 4 = 0 ∧ 0x60 ≤ 0x60 ∧ 0x60 < 0x100) ∧
    (nextAccess (accessing used .word 0xFC .read) .word 0xFC .read ∧ 0xFC % 4 = 0 ∧ 0x60 ≤ 0xFC ∧ 0xFC < 0x100) := by
  decide

theorem witness_RegisterWrites :
    (∀ offset ∈ [0x04, 0x3C, 0x60, 0xFC],
      nextAccess (accessing used .word offset (.write 5#32)) .word offset (.write 5#32) ∧ offset % 4 = 0 ∧
        0 < offset ∧ offset < 0x100 ∧ (offset < 0x40 ∨ 0x60 ≤ offset)) ∧
    (∀ offset ∈ [0x40, 0x44, 0x48, 0x4C, 0x50, 0x54, 0x58, 0x5C],
      nextAccess (accessing used .word offset (.write 5#32)) .word offset (.write 5#32)) := by decide

theorem witness_OtherAccessesAreRefused :
    (nextAccess (accessing used .byte 0xFF .read) .byte 0xFF .read ∧ 0xFF < 0x100 ∧ Width.byte ≠ .word) ∧
    (nextAccess (accessing used .word 0x02 .read) .word 0x02 .read ∧ 0x02 < 0x100 ∧ 0x02 % 4 ≠ 0) ∧
    (nextAccess (accessing used .word 0x100 .read) .word 0x100 .read ∧ Width.word ≠ .byte) ∧
    (nextAccess (accessing used .half 0x2FF .read) .half 0x2FF .read ∧ 0x2FF < 0x300 ∧ Width.half ≠ .byte) ∧
    (nextAccess (accessing used .wide 0 .read) .wide 0 .read ∧ Width.wide ≠ .word) := by decide

theorem witness_BufferWindows :
    nextAccess (accessing used .byte (0x100 + 255) (.write 5#32)) .byte (0x100 + 255) (.write 5#32) ∧
    (nextAccess (accessing used .byte (0x100 + 0) .read) .byte (0x100 + 0) .read ∧ used.txbuf.read 0 = some 0xA1#8) ∧
    (nextAccess (accessing used .byte (0x100 + 255) .read) .byte (0x100 + 255) .read ∧ used.txbuf.read 255 = none) ∧
    nextAccess (accessing used .byte (0x200 + 255) (.write 5#32)) .byte (0x200 + 255) (.write 5#32) ∧
    (nextAccess (accessing { used with rxbuf := [(255, 7#8)] } .byte (0x200 + 255) .read) .byte (0x200 + 255) .read ∧
      ({ used with rxbuf := [(255, 7#8)] } : State).rxbuf.read 255 = some 7#8) ∧
    (nextAccess (accessing used .byte (0x200 + 0) .read) .byte (0x200 + 0) .read ∧ used.rxbuf.read 0 = none) := by
  decide

/-- The one hypothesis of SettersWriteOneFlag, GettersWriteOnlyResult, PassThroughsEmitOneAction,
SlaveBufferAndAddressSetters. -/
theorem witness_inited : ready.inited = true ∧ used.inited = true := by decide

/-- Executing `i` in `s` changes this flag from `a` to the other value. -/
def flips (f : Flags → Bool) (i : Instr) (s : State) (a : Bool) : Bool :=
  ends (exec i s) fun t => f s.flags == a && f t.flags == !a

theorem witness_FlagsChangeOnlyByTheirCommands :
    flips (·.pec) .pecen ready false ∧ flips (·.pec) (.mi2cwrrd 0x50#7 2#8 1#8) used true ∧
    flips (·.pc) (.mpcall 0x50#7 1#8) ready false ∧ flips (·.pc) (.mquick 0x50#7 true) used true ∧
    flips (·.blk) .arpgug ready false ∧ flips (·.blk) .arpprep used true ∧
    flips (·.tip) (.mnotify 1#8) ready false ∧ flips (·.tip) .mintp { used with masterCursor := .idle } true ∧
    flips (·.raw) (.mi2crd 0x50#7 1#8) ready false ∧ flips (·.raw) (.mrecvb 0x50#7) used true ∧
    flips (·.ar) (.sarset true) ready false ∧ flips (·.ar) .minit used true ∧
    flips (·.av) (.savset true) ready false ∧ flips (·.av) .sinit used true ∧
    flips (·.arp) .arpen ready false ∧ flips (·.arp) .arpdis used true := by decide +kernel

theorem witness_BuffersChangeOnlyByTheirCommands :
    ends (exec (.udidenc 1#8) { used with udidWritten := .full }) (fun t => t.txbuf.read 16 != used.txbuf.read 16) = true ∧
    ends (exec (.arpnotify 1#8) used) (fun t => t.txbuf.read 1 != used.txbuf.read 1) = true ∧
    ends (exec .mintp (masterAt .readNext)) (fun t => t.rxbuf.read 0 != (masterAt .readNext).rxbuf.read 0) = true ∧
    ends (exec .udiddec { ready with rxbuf := Memory.writeBytes [] 0 somePacket }) (fun t => t.udid != ready.udid) =
      true := by decide

/-- Four bytes stored and the size byte 2, at the master and at the slave: the adopted size is below `rx_index`, and the
next byte ends in the error. -/
theorem witness_BuffersChangeOnlyByTheirCommands_adopts :
    (∀ s ∈ [sensing { masterAt .readBlockSize with rxIndex := 4#8 } { Inputs.quiet with data := 2#8 }],
      s.rxIndex ≤ s.rxSize ∧ ends (exec .mintp s) (fun t => decide (t.rxSize < t.rxIndex) &&
        ends (exec .mintp { t with inputs := .quiet }) fun u => decide (u.result.status = .dataSizeError)) = true) ∧
    ∀ s ∈ [sensing { used with slaveCursor := .slavePostCommand, rxIndex := 4#8 }
        { Inputs.quiet with intData := true, stRreq := true, data := 2#8 }],
      s.rxIndex ≤ s.rxSize ∧ ends (exec .sintp s) (fun t => decide (t.rxSize < t.rxIndex) &&
        ends (exec .sintp t) fun u => decide (u.result.status = .slaveError)) = true := by decide

theorem witness_EnginesMeetOnlyAtTheTurnAround :
    ends (exec (.mnotify 1#8) ready) (fun t => t.masterCursor != ready.masterCursor) = true ∧
    ends (exec .sxferinit used) (fun t => t.slaveCursor != used.slaveCursor) = true := by decide

/-- A byte 7 in ReadPEC while PEC is off. -/
def offPec : State :=
  sensing { ready with slaveCursor := .readPec } { Inputs.quiet with intData := true, stRreq := true, data := 7#8 }

/-- PEC off: a command that leaves the fields alone, one that resets them, and a byte in ReadPEC, dropped and not
stored. -/
theorem witness_PecOffLeavesTheCrcFields :
    ((masterAt .readNext).flags.pec = false ∧ ends (exec .mintp (masterAt .readNext)) (fun _ => true) = true) ∧
    (ready.flags.pec = false ∧ ends (exec .sxferinit ready) (fun _ => true) = true) ∧
    offPec.flags.pec = false ∧ ends (exec .sintp offPec)
      (fun t => decide (t.receivedCrc = 0#8) && decide (t.trace = [.sIclrData, .sGet])) = true := by
  refine ⟨by decide, by decide, by decide, ?_⟩
  have h : exec .sintp offPec = slavePecOff ((offPec.emit .sIclrData).emit .sGet) := rfl
  rw [h, slavePecOff]
  split <;> decide

theorem witness_CommandsOnlyAppendActions :
    ends (exec .mintp (masterAt .readNext)) (fun t => decide (t.trace.length = 3)) = true ∧
    ends (step (commanded used 3#32)) (fun _ => true) = true := by decide

theorem witness_EveryCommandCompletes : ∃ s : State,
    (∀ a, a < s.txSize.toNat ∨ a = 0 → s.txbuf.read a ≠ none) ∧ (∀ a, a < 17 → s.rxbuf.read a ≠ none) ∧
    s.udidWritten.all = true ∧ s.flags.raw = true ∧ s.rxIndex < s.rxSize ∧ s.inited = true := by
  refine ⟨{ used with udidWritten := .full, txSize := 3#8, rxbuf := Memory.writeBytes [] 0 somePacket }, ?_, ?_, rfl,
    rfl, by decide, rfl⟩
  · intro a ha
    have : a < 3 := by
      rcases ha with ha | rfl
      · exact ha
      · omega
    interval_cases a <;> decide
  · decide

/-- The outcome is this fault. -/
def faults (o : Out) (f : Fault) : Bool :=
  match o with
  | .next _ => false
  | .fault g => decide (g = f)
  | .refused _ => false

theorem witness_CommandsStopOnlyOnMissingData :
    faults (exec .sdsend { ready with txSize := 1#8 }) (.unwrittenTxByte 0) = true ∧
    faults (exec (.mi2cwr 0x50#7 2#8) ready) (.unwrittenTxByte 0) = true ∧
    faults (exec .udiddec { ready with rxbuf := [(0, 1#8)] }) (.unwrittenRxByte 1) = true ∧
    faults (exec (.udidenc 1#8) ready) .unwrittenUdid = true ∧
    faults (exec .sintp { ready with
      flags := { Flags.clear with raw := true },
      inputs := { Inputs.quiet with intData := true, stFbr := true } }) (.rawStoreBeyondCapacity 0) = true := by decide

theorem witness_CrcProperties : 0 < 8 ∧ 7 < 8 := by decide

theorem witness_BusyPeripheralRefusesEveryStart :
    (sensing ready { Inputs.quiet with periphBusy := true }).inited = true ∧ startsMaster (.arpassign 1#8) = true ∧
    (sensing ready { Inputs.quiet with periphBusy := true }).inputs.periphBusy = true := by decide

theorem witness_BadSizesAreRejected : ready.inited = true ∧ ready.inputs.periphBusy = false ∧ (0#8).toNat = 0 ∧
    2 < (3#8).toNat ∧ 32 < (33#8).toNat := by decide

/-- The hypotheses of QuickCommandAndHostNotifyStart and SendAndReceiveByteStart, and of the size
clauses of WriteAndReadWordStart, BlockWriteAndReadStart and ProcessCallsStart at both ends. -/
theorem witness_starts : ready.inited = true ∧ ready.inputs.periphBusy = false ∧ (1#8 = 1#8 ∨ 1#8 = 2#8) ∧
    (2#8 = 1#8 ∨ 2#8 = 2#8) ∧ 1 ≤ (1#8).toNat ∧ (32#8).toNat ≤ 32 := by decide

/-- The hypotheses of RawWriteAndReadStart and RawWriteReadStarts. -/
theorem witness_raw_starts : armed.inited = true ∧ armed.inputs.periphBusy = false ∧ 1#8 ≠ 0#8 ∧ 255#8 ≠ 0#8 ∧
    armed.txbuf.read 0 = some 0xA1#8 := by decide

theorem witness_MasterErrorPaths : used.inited = true ∧
    (sensing used { Inputs.quiet with intTimeout := true }).inputs.intTimeout = true ∧
    ((sensing used { Inputs.quiet with errArb := true }).inputs.intTimeout = false ∧
      (sensing used { Inputs.quiet with errArb := true }).inputs.errArb = true) ∧
    ((sensing used { Inputs.quiet with errDataNack := true }).inputs.intTimeout = false ∧
      (sensing used { Inputs.quiet with errDataNack := true }).inputs.errArb = false ∧
      (sensing used { Inputs.quiet with errDataNack := true }).inputs.errDataNack = true) := by decide

theorem witness_MasterIdleDefaultAndErrorStop : ready.inputs.noMasterError = true ∧
    ((masterAt .idle).inited = true ∧ (masterAt .idle).masterCursor = .idle) ∧
    (masterAt .unused).masterCursor ∈ [Cursor.slavePostCommand, .writeDone, .readPec, .readDone, .unused] ∧
    (masterAt .readErrorStop).masterCursor = .readErrorStop := by decide

theorem witness_MasterErrorIsUnreachable : used.Good ∧ used.inited = true ∧ ∃ t, exec .mintp used = .next t :=
  ⟨used_good, rfl, _, rfl⟩

/-- The hypotheses of MasterSendsSizeAndPayload, clause by clause. -/
theorem witness_MasterSendsSizeAndPayload : (masterAt .writeNext).inited = true ∧
    (masterAt .writeNext).inputs.noMasterError = true ∧ (masterAt .writeBlockSize).masterCursor = .writeBlockSize ∧
    (masterAt .writeNext).masterCursor = .writeNext ∧ (masterAt .writeNext).txIndex < (masterAt .writeNext).txSize ∧
    (masterAt .writeNext).txbuf.read (masterAt .writeNext).txIndex.toNat = some 0xA1#8 := by decide

/-- The last payload byte of a process call, and without one, and the PEC byte. -/
theorem witness_MasterFinishesOrTurnsAround :
    ∀ s ∈ [masterAt .writeFinal, { masterAt .writeFinal with flags := { Flags.clear with pc := true } },
      { masterAt .writeFinal with flags := pecOn }],
      s.inited = true ∧ s.inputs.noMasterError = true ∧ s.masterCursor = .writeFinal ∧ s.txIndex < s.txSize ∧
        s.txbuf.read s.txIndex.toNat = some 0xA1#8 := by decide

theorem witness_MasterOverruns :
    (∀ c ∈ [Cursor.writeNext, .writeFinal], ∀ s ∈ [{ masterAt c with txSize := 0#8 }],
      s.inited = true ∧ s.inputs.noMasterError = true ∧ s.txSize ≤ s.txIndex ∧ s.masterCursor = c ∧
        s.flags.pec = false) ∧
    (∀ c ∈ [Cursor.readNext, .readFinal], ∀ s ∈ [{ masterAt c with rxIndex := 4#8 }],
      s.rxSize ≤ s.rxIndex ∧ s.masterCursor = c) := by decide

theorem witness_MasterTurnsToRead : ∀ c ∈ [Cursor.readOne, .readFirst],
    (masterAt c).inited = true ∧ (masterAt c).inputs.noMasterError = true ∧ (masterAt c).masterCursor = c ∧
    4 = ((masterAt c).rxSize.toNat - (masterAt c).rxIndex.toNat) + (if (masterAt c).flags.pec = true then 1 else 0) := by
  decide

theorem witness_MasterReadsBlockSize : ∀ n ∈ [0#8, 1#8, 32#8, 33#8],
    ∀ s ∈ [sensing (masterAt .readBlockSize) { Inputs.quiet with data := n }],
    s.inited = true ∧ s.inputs.noMasterError = true ∧ s.masterCursor = .readBlockSize ∧ n = s.inputs.data ∧
      n.toNat = n.toNat + (if s.flags.pec = true then 1 else 0) ∧
      ((n.toNat = 0 ∨ 32 < n.toNat) ∨ (1 ≤ n.toNat ∧ n.toNat ≤ 32)) := by decide

theorem witness_MasterStoresReceivedBytes : ∀ c ∈ [Cursor.readNext, .readFinal],
    (masterAt c).inited = true ∧ (masterAt c).inputs.noMasterError = true ∧ (masterAt c).rxIndex < (masterAt c).rxSize ∧
    (masterAt c).masterCursor = c := by decide

theorem witness_MasterEndsTheRead :
    ∀ s ∈ [masterAt .readWait, { masterAt .readWait with flags := pecOn }, { masterAt .readWait with rxIndex := 4#8 }],
    s.inited = true ∧ s.inputs.noMasterError = true ∧ s.masterCursor = .readWait ∧
      (s.flags.pec = true ∨ s.rxSize ≤ s.rxIndex ∨ s.rxIndex < s.rxSize) := by decide

/-- One and three payload bytes, without and with PEC, the last input with a bit set that is no error. -/
theorem witness_BlockWriteCompletes : ∀ s ∈ [armed, { armed with flags := pecOn }],
    s.inited = true ∧ s.inputs.periphBusy = false ∧ ∀ payload ∈ [[0xA1#8], [0xA1#8, 0xA2#8, 0xA3#8]],
      1 ≤ payload.length ∧ payload.length ≤ 32 ∧ (∀ k, k < payload.length → s.txbuf.read k = payload[k]?) ∧
      ∀ ins ∈ [List.replicate (payload.length + (if s.flags.pec = true then 3 else 2)) { Inputs.quiet with busBusy := true }],
        ins.length = payload.length + (if s.flags.pec = true then 3 else 2) ∧ ∀ x ∈ ins, x.noMasterError = true := by
  decide

/-- A block in the middle of a transaction, its inputs without error or with a NACK on a free bus; a timeout and an
arbitration loss. -/
theorem witness_EveryTransactionEnds : (masterAt .writeNext).inited = true ∧
    (∀ a, a < (masterAt .writeNext).txSize.toNat → (masterAt .writeNext).txbuf.read a ≠ none) ∧
    (∀ ins ∈ [List.replicate 39 .quiet ++ [{ Inputs.quiet with errDataNack := true }]],
      ins.length = (masterAt .writeNext).txSize.toNat + max (masterAt .writeNext).rxSize.toNat 32 + 5 ∧
      ∀ x ∈ ins, x.noMasterError = true ∨ x.busBusy = false) ∧
    ({ Inputs.quiet with intTimeout := true } : Inputs).intTimeout = true ∧
    ({ Inputs.quiet with errArb := true } : Inputs).errArb = true := by decide

theorem witness_OneByteBlockProcessCallWithPecFails : ∀ s ∈ [{ armed with flags := pecOn }],
    s.inited = true ∧ s.inputs.periphBusy = false ∧ s.inputs.noMasterError = true ∧ s.flags.pec = true ∧
      s.txbuf.read 0 = some 0xA1#8 := by decide

/-- STOP with and without the Quick Command bit, with and without an exchange, and neither STOP nor DATA. -/
theorem witness_SlaveStopAndStart :
    (used.inited = true ∧ used.inputs.intStop = false ∧ used.inputs.intData = false) ∧
    (∀ q : Bool, (sensing used { Inputs.quiet with intStop := true, stQcmd := q }).inputs.intStop = true ∧
      (sensing used { Inputs.quiet with intStop := true, stQcmd := q }).inputs.stQcmd = q) ∧
    used.rxIndex ≠ 0#8 ∧ (ready.rxIndex = 0#8 ∧ ready.txIndex = 0#8 ∧ ready.slaveCursor = .idle) ∧
    [Action.sIclrStart] = (if (sensing used { Inputs.quiet with intStart := true }).inputs.intStart = true
      then [Action.sIclrStart] else []) := by decide

/-- A first byte without raw mode, in raw mode with room, and in raw mode without. -/
theorem witness_SlaveTakesFirstByte :
    ∀ s ∈ [ready, { ready with flags := { Flags.clear with raw := true }, rxSize := 1#8 },
      { ready with flags := { Flags.clear with raw := true } }].map
        (sensing · { Inputs.quiet with intData := true, stFbr := true }),
    s.inited = true ∧ s.inputs.intStop = false ∧ s.inputs.intData = true ∧ s.inputs.stFbr = true ∧
      ([] : List Action) = (if s.inputs.intStart = true then [.sIclrStart] else []) ∧
      s.saddr0 = (if s.inputs.stOwn2 = true then s.saddr1 else s.saddr0) ∧
      (s.flags.raw = false ∨ (s.flags.raw = true ∧ (s.rxIndex < s.rxSize ∨ s.rxSize ≤ s.rxIndex))) := by decide

/-- A later byte: the block size above and at the capacity, payload with and without room, the PEC byte, and a cursor
that takes no byte. -/
theorem witness_SlaveTakesNextByte :
    (∀ s ∈ [ready, used].map (sensing · { Inputs.quiet with intData := true, stRreq := true, data := 4#8 }),
      s.inited = true ∧ s.inputs.intStop = false ∧ s.inputs.intData = true ∧ s.inputs.stFbr = false ∧
        s.inputs.stRreq = true ∧ 4#8 = s.inputs.data ∧
        [.sIclrData, .sGet] = (if s.inputs.intStart = true then [Action.sIclrStart] else []) ++ [.sIclrData, .sGet]) ∧
    (({ used with slaveCursor := .slavePostCommand } : State).flags.blk = true ∧ used.rxSize < 5#8 ∧ 4#8 ≤ used.rxSize) ∧
    (ready.rxSize ≤ ready.rxIndex ∧ used.rxIndex < used.rxSize) ∧
    (used.slaveCursor = .readPec ∧ used.flags.pec = true) ∧
    (({ ready with slaveCursor := .readPec } : State).slaveCursor = .readPec ∧ ready.flags.pec = false) ∧
    (ready.slaveCursor ≠ .slavePostCommand ∧ ready.slaveCursor ≠ .readNext ∧ ready.slaveCursor ≠ .readPec) := by decide

/-- Each clause of SlaveSendsAByte: nothing declared; the size byte, a payload byte and the filler at the start of a
direction; a further payload byte; the byte after the payload; after the end; an unexpected cursor. -/
theorem witness_SlaveSendsAByte :
    (∀ s ∈ [ready, used], s.inited = true) ∧ ready.txSize = 0#8 ∧ used.txSize ≠ 0#8 ∧
    (Cursor.readDone ∈ [Cursor.idle, .slavePostCommand, .readNext, .readDone] ∧ used.flags.blk = true) ∧
    (armed.flags.blk = false ∧ (masterAt .idle).txIndex < (masterAt .idle).txSize ∧
      (masterAt .idle).txbuf.read (masterAt .idle).txIndex.toNat = some 0xA1#8) ∧
    (({ used with txIndex := 3#8 } : State).txSize ≤ ({ used with txIndex := 3#8 } : State).txIndex) ∧
    (used.slaveCursor ∉ [Cursor.idle, .slavePostCommand, .readNext, .readDone] ∧ used.slaveCursor ≠ .writeNext ∧
      used.slaveCursor ≠ .writeFinal ∧ used.slaveCursor ≠ .writeDone) := by decide

/-- A transmit request at the start of a direction and after it, and no status bit at all. -/
theorem witness_SlaveTransmitRequest :
    ∀ c ∈ [Cursor.idle, .readDone, .writeNext], ∀ q : Bool,
    ∀ s ∈ [sensing { masterAt .idle with slaveCursor := c } { Inputs.quiet with intData := true, stTreq := q }],
    s.inited = true ∧ s.inputs.intStop = false ∧ s.inputs.intData = true ∧ s.inputs.stFbr = false ∧
      s.inputs.stRreq = false ∧ s.inputs.stTreq = q := by decide

theorem witness_UdidPacketRoundTrips : somePacket.length = 17 := by decide

theorem witness_UdidCommands : ∀ s ∈ [{ ready with udidWritten := .full, rxbuf := Memory.writeBytes [] 0 somePacket }],
    s.inited = true ∧ s.udidWritten.all = true ∧ ∀ k, k < 17 → s.rxbuf.read k = somePacket[k]? := by decide

theorem witness_ArpHelpersAreStarts : ready.inited = true ∧ ready.inputs.periphBusy = false ∧
    ∀ p ∈ [ready.arpParams],
    (Instr.arpgud 0x31#7, Instr.mblkrd p.defaultAddr (addrByte 0x31#7 false ||| p.directedGetUdid),
        addrByte 0x31#7 false ||| p.directedGetUdid) ∈
      [(Instr.arpgug, Instr.mblkrd p.defaultAddr p.getUdid, p.getUdid),
        (.arpgud 0x31#7, .mblkrd p.defaultAddr (addrByte 0x31#7 false ||| p.directedGetUdid),
          addrByte 0x31#7 false ||| p.directedGetUdid)] := by decide

theorem witness_ArpAssignAndNotify : ∀ s ∈ [{ ready with udidWritten := .full }],
    s.inited = true ∧ s.inputs.periphBusy = false ∧ s.udidWritten.all = true := by decide

end Sys2Proof.Tests
end

section
/-! The register window of a scheduled host step, and the one-field registers (O12). -/

namespace Sys2Proof.Machine

/-! ## One step of the schedule -/

/-- A step takes the head of the schedule (R14a, R72). -/
theorem step_of_schedule {s : State} {h : HostStep} {rest : List HostStep} (hs : s.schedule = h :: rest) :
    step s = hostStep exec h { s with schedule := rest } := by
  simp only [step, hostTurn, hs]

/-- A 32-bit access to an aligned offset below 0x100 reaches the register window (R67). -/
theorem busAccess_of_register (run : Instr → State → Out) {offset : Nat} (haligned : offset % 4 = 0)
    (hlow : offset < 0x100) (op : BusOp) (inp : Inputs) (s : State) :
    busAccess run .word offset op inp s = regAccess run offset op inp s := by
  simp [busAccess, haligned, hlow]

/-- No register shows the model's own schedule. -/
@[simp] theorem readReg_with_schedule (s : State) (rest : List HostStep) (offset : Nat) :
    readReg { s with schedule := rest } offset = readReg s offset := rfl

/-- A register read completes and changes nothing but the model's schedule and reply (R63). -/
theorem step_of_register_read {s : State} {offset : Nat} {inp : Inputs} {rest : List HostStep}
    (hs : s.schedule = .access .word offset .read inp :: rest) (haligned : offset % 4 = 0) (hlow : offset < 0x100) :
    step s = .next { s with schedule := rest, reply := .data (readReg s offset) } := by
  rw [step_of_schedule hs]
  exact busAccess_of_register exec haligned hlow .read inp _

/-! ## The cursor codes of R27 -/

/-- The table of R27: every cursor with its number. -/
def cursorTable : List (Cursor × Nat) :=
  [(.idle, 0), (.slavePostCommand, 1), (.writeBlockSize, 2), (.writeNext, 3), (.writeFinal, 4), (.writeDone, 5),
    (.readOne, 6), (.readFirst, 7), (.readBlockSize, 8), (.readNext, 9), (.readFinal, 10), (.readWait, 11),
    (.readPec, 12), (.readDone, 13), (.readErrorStop, 14), (.unused, 15)]

/-- The number the table has for a cursor is its 4-bit code, and there is no other. -/
theorem mem_cursorTable_iff (c : Cursor) (k : Nat) : (c, k) ∈ cursorTable ↔ k = c.code.toNat := by
  cases c <;> simp [cursorTable, Cursor.code]

@[simp] theorem Cursor.code_ofCode (code : BitVec 4) : (Cursor.ofCode code).code = code := by
  revert code; decide

/-! ## What the registers read -/

/-- The registers that hold one field, each with the number it reads; `CMD`, which reads 0, stands first (R63). -/
def oneFieldRegisters (s : State) : List (Nat × Nat) :=
  [(0x00, 0), (0x0C, s.masterCursor.code.toNat), (0x10, s.slaveCursor.code.toNat),
    (0x14, s.txSize.toNat), (0x18, s.txIndex.toNat), (0x1C, s.rxSize.toNat), (0x20, s.rxIndex.toNat),
    (0x24, s.ownAddress.toNat), (0x28, s.targetAddress.toNat), (0x2C, s.currentCommand.toNat),
    (0x30, s.computedCrc.toNat), (0x34, s.receivedCrc.toNat), (0x40, s.udid.cap.toNat),
    (0x44, s.udid.ver.toNat), (0x48, s.udid.vendor.toNat), (0x4C, s.udid.device.toNat),
    (0x50, s.udid.iface.toNat), (0x54, s.udid.subvendor.toNat), (0x58, s.udid.subdevice.toNat),
    (0x5C, s.udid.vspec.toNat)]

theorem oneFieldRegisters_offset {s : State} {offset n : Nat} (h : (offset, n) ∈ oneFieldRegisters s) :
    offset % 4 = 0 ∧ offset < 0x100 := by
  have hoffsets : ∀ k ∈ (oneFieldRegisters s).map Prod.fst, k % 4 = 0 ∧ k < 0x100 := by
    simp [oneFieldRegisters]
  exact hoffsets offset (List.mem_map_of_mem h)

/-- No field is wider than the 32-bit word it is read in, so the word's number is the field's. -/
theorem readReg_of_oneField {s : State} {offset n : Nat} (h : (offset, n) ∈ oneFieldRegisters s) :
    (readReg s offset).toNat = n := by
  have hregisters : ∀ p ∈ oneFieldRegisters s, (readReg s p.1).toNat = p.2 := by
    simp [oneFieldRegisters, readReg, -BitVec.toNat_setWidth, BitVec.toNat_setWidth_of_le]
  exact hregisters _ h

/-- The reserved offsets read 0 (R70). -/
theorem readReg_of_reserved (s : State) {offset : Nat} (h : 0x60 ≤ offset) : readReg s offset = 0#32 := by
  rw [readReg] <;> omega

/-- A register the statement lists: its offset can be read, and reads the number given. -/
theorem readable_register {s : State} {offset n : Nat}
    (h : (offset, n) ∈ oneFieldRegisters s ∨ (n = 0 ∧ offset % 4 = 0 ∧ 0x60 ≤ offset ∧ offset < 0x100)) :
    offset % 4 = 0 ∧ offset < 0x100 ∧ (readReg s offset).toNat = n := by
  rcases h with hfield | ⟨rfl, haligned, hreserved, hlow⟩
  · obtain ⟨haligned, hlow⟩ := oneFieldRegisters_offset hfield
    exact ⟨haligned, hlow, readReg_of_oneField hfield⟩
  · exact ⟨haligned, hlow, by rw [readReg_of_reserved s hreserved]; rfl⟩

/-- Settles O12: a register read is `readReg` of the offset, and the table of R27 gives the cursors' codes. -/
theorem oneFieldRegistersRead : Obligations.OneFieldRegistersRead := by
  rintro _ s rest inp offset n master slave rfl
  refine ⟨fun c => ⟨_, (mem_cursorTable_iff c _).2 rfl⟩,
    fun code => ⟨(mem_cursorTable_iff _ _).2 (by rw [Cursor.code_ofCode]), Cursor.code_ofCode code⟩, ?_⟩
  intro hmaster hslave hs hregister
  obtain rfl := (mem_cursorTable_iff _ _).1 hmaster
  obtain rfl := (mem_cursorTable_iff _ _).1 hslave
  obtain ⟨haligned, hlow, hreads⟩ := readable_register (s := s) hregister
  exact ⟨readReg s offset, step_of_register_read hs haligned hlow, hreads⟩

end Sys2Proof.Machine
end

section
/-! What one command and one step can do to the state, said once: an effect for every command, then the step
that runs it. -/

namespace Sys2Proof.Machine

/-! ## What the effects leave unchanged, field by field -/

section
variable {i : Instr} {n : Nat} {s t : State}

theorem StartEffect.inited_eq (h : StartEffect i s t) : t.inited = s.inited := by rw [h.frame]
theorem StartEffect.rxbuf_eq (h : StartEffect i s t) : t.rxbuf = s.rxbuf := by rw [h.frame]
theorem StartEffect.udid_eq (h : StartEffect i s t) : t.udid = s.udid := by rw [h.frame]
theorem StartEffect.ar_eq (h : StartEffect i s t) : t.flags.ar = s.flags.ar := by rw [h.frame]
theorem StartEffect.av_eq (h : StartEffect i s t) : t.flags.av = s.flags.av := by rw [h.frame]
theorem StartEffect.arp_eq (h : StartEffect i s t) : t.flags.arp = s.flags.arp := by rw [h.frame]

theorem MasterEffect.inited_eq (h : MasterEffect s t) : t.inited = s.inited := by rw [h.frame]
theorem MasterEffect.txSize_eq (h : MasterEffect s t) : t.txSize = s.txSize := by rw [h.frame]
theorem MasterEffect.txbuf_eq (h : MasterEffect s t) : t.txbuf = s.txbuf := by rw [h.frame]
theorem MasterEffect.udid_eq (h : MasterEffect s t) : t.udid = s.udid := by rw [h.frame]
theorem MasterEffect.flags_eq (h : MasterEffect s t) : t.flags = { s.flags with tip := t.flags.tip } := by
  rw [h.frame]

theorem SlaveEffect.inited_eq (h : SlaveEffect n s t) : t.inited = s.inited := by rw [h.frame]
theorem SlaveEffect.txSize_eq (h : SlaveEffect n s t) : t.txSize = s.txSize := by rw [h.frame]
theorem SlaveEffect.txbuf_eq (h : SlaveEffect n s t) : t.txbuf = s.txbuf := by rw [h.frame]
theorem SlaveEffect.udid_eq (h : SlaveEffect n s t) : t.udid = s.udid := by rw [h.frame]
theorem SlaveEffect.masterCursor_eq (h : SlaveEffect n s t) : t.masterCursor = s.masterCursor := by rw [h.frame]
theorem SlaveEffect.flags_eq (h : SlaveEffect n s t) : t.flags = { s.flags with tip := t.flags.tip } := by
  rw [h.frame]

end

/-! ## The commands beside the starts and the two engines -/

/-- The flags a setter command leaves (R123 to R126, R287 to R296); none where the command is no flag setter. -/
def flagSetting : Instr → Flags → Option Flags
  | .pecen, f => some { f with pec := true }
  | .pecdis, f => some { f with pec := false }
  | .arpen, f => some { f with arp := true }
  | .arpdis, f => some { f with arp := false }
  | .spcen, f => some { f with pc := true }
  | .spcdis, f => some { f with pc := false }
  | .sblken, f => some { f with blk := true }
  | .sblkdis, f => some { f with blk := false }
  | .si2cen, f => some { f with raw := true }
  | .si2cdis, f => some { f with raw := false }
  | .sarset v, f => some { f with ar := v }
  | .savset v, f => some { f with av := v }
  | _, _ => none

/-- What a command that starts no transaction and runs no engine does, `s` before and the last argument after; every
one of them writes `result`. -/
inductive PlainEffect : Instr → State → State → Prop
  | report {i : Instr} {s : State} (r : Result) : PlainEffect i s { s with result := r }
  | emits {i : Instr} {s : State} (a : Action) (r : Result) :
      PlainEffect i s { s with trace := s.trace ++ [a], result := r }
  | masterInit {s : State} (r : Result) : PlainEffect .minit s { s.initFields with result := r }
  | slaveInit {s : State} (r : Result) :
      PlainEffect .sinit s { s.initFields with trace := s.trace ++ [.sEnable], result := r }
  | setsFlags {i : Instr} {s : State} {f : Flags} (hf : flagSetting i s.flags = some f) (r : Result) :
      PlainEffect i s { s with flags := f, result := r }
  | transferInit {s : State} (r : Result) : PlainEffect .sxferinit s { s with
      txIndex := 0#8, rxIndex := 0#8, txSize := 0#8, computedCrc := 0#8, receivedCrc := 0#8, slaveCursor := .idle,
      flags := { s.flags with tip := false }, result := r }
  | txDeclared {s : State} (n : Byte) (r : Result) :
      PlainEffect (.stxset n) s { s with txSize := n, txIndex := 0#8, result := r }
  | rxDeclared {s : State} (n : Byte) (r : Result) :
      PlainEffect (.srxset n) s { s with rxSize := n, rxIndex := 0#8, result := r }
  | ownAddress {s : State} (a : BusAddr) (slot : Bool) (r : Result) : PlainEffect (.saddrset a slot) s { s with
      saddr0 := if slot then s.saddr0 else a, saddr1 := if slot then a else s.saddr1,
      trace := s.trace ++ [.sAddr slot a], result := r }
  | bindsUdid {s : State} (r : Result) : PlainEffect .sudidset s { s with udidBound := true, result := r }
  | encodesUdid {s : State} (x : Byte) {m : Memory} (hm : m = s.txbuf.writeBytes 0 (udidEncode s.udid x))
      (r : Result) : PlainEffect (.udidenc x) s { s with txbuf := m, result := r }
  | decodesUdid {s : State} (u : Udid) (r : Result) :
      PlainEffect .udiddec s { s with udid := u, udidWritten := .full, result := r }

theorem udidenc_effect (x : Byte) (s : State) : Ends (PlainEffect (.udidenc x) s) (exec (.udidenc x) s) := by
  refine ends_whenInited (fun _ => ends_withUdidPacket fun _ => ?_) fun _ => .report _
  generalize hm : s.txbuf.writeBytes 0 (udidEncode s.udid x) = m
  exact ends_finish (.encodesUdid x hm.symm _)

theorem udiddec_effect (s : State) : Ends (PlainEffect .udiddec s) (exec .udiddec s) := by
  refine ends_whenInited (fun _ => ?_) fun _ => .report _
  split
  · exact ends_finish (.decodesUdid _ _)
  · exact ends_fault _

theorem saddrset_effect (a : BusAddr) (slot : Bool) (s : State) :
    Ends (PlainEffect (.saddrset a slot) s) (exec (.saddrset a slot) s) := by
  refine ends_whenInited (fun _ => ends_finish ?_) fun _ => .report _
  cases slot with
  | false => exact .ownAddress a false _
  | true => exact .ownAddress a true _

/-- A guarded command that ends at once: its own effect, or CmdErr before the init (R34). -/
theorem ends_plain {i : Instr} {s s1 : State} {st : Status} {d : Byte}
    (h : PlainEffect i s (s1.setResult ⟨false, st, d⟩)) :
    Ends (PlainEffect i s) (whenInited s (finish s1 st d)) :=
  ends_whenInited (fun _ => ends_finish h) fun _ => .report _

/-- The commands whose effect `PlainEffect` states: those that start no transaction and run no engine. -/
def isPlain (i : Instr) : Bool :=
  !startsMaster i && i != .mintp && i != .sintp && i != .sdsend

/-- Everything a command outside the starts and the engines can do to the state. -/
theorem plain_effect (i : Instr) (hi : isPlain i = true) (s : State) : Ends (PlainEffect i s) (exec i s) := by
  cases i
  case minit => exact ends_finish (.masterInit _)
  case sinit => exact ends_finish (.slaveInit _)
  case udidenc x => exact udidenc_effect x s
  case udiddec => exact udiddec_effect s
  case saddrset a slot => exact saddrset_effect a slot s
  case sxferinit => exact ends_plain (.transferInit _)
  case stxset n => exact ends_plain (.txDeclared n _)
  case srxset n => exact ends_plain (.rxDeclared n _)
  case sudidset => exact ends_plain (.bindsUdid _)
  case statget | rxcnt | scmdget | sarget | savget | smackget | saddrget => exact ends_plain (.report _)
  case minten | sinten | smacken | smackdis | sacksend => exact ends_plain (.emits _ _)
  case pecen | pecdis | arpen | arpdis | spcen | spcdis | sblken | sblkdis | si2cen | si2cdis | sarset | savset =>
    exact ends_plain (.setsFlags rfl _)
  all_goals cases hi

/-! ## Every command -/

theorem masterEffect_of_rejected (s : State) : MasterEffect s { s with result := ⟨true, .ok, 0#8⟩ } where
  frame := rfl
  tip := id
  tx := .inl rfl
  rx := .inl ⟨rfl, rfl, rfl⟩
  slave := .inl rfl
  handled h := ⟨h, by simp⟩
  crc _ := ⟨rfl, rfl⟩
  trace := ⟨[], by simp, by simp⟩

theorem slaveEffect_of_rejected (n : Nat) (s : State) : SlaveEffect n s { s with result := ⟨true, .ok, 0#8⟩ } where
  frame := rfl
  tx := .inl rfl
  rx := .inl ⟨rfl, rfl, rfl⟩
  slave := .inl rfl
  crc _ := ⟨rfl, rfl⟩
  trace := ⟨[], by simp, by simp⟩

/-- What a command can do, by the part of the block that runs it. -/
inductive CommandEffect (i : Instr) (s t : State) : Prop
  | start (hi : startsMaster i = true) (h : StartEffect i s t)
  | master (hi : i = .mintp) (h : MasterEffect s t)
  | slave (hi : i = .sintp) (h : SlaveEffect 3 s t)
  | send (hi : i = .sdsend) (h : SlaveEffect 1 s t) (keeps : TxKeeps s t)
  | plain (h : PlainEffect i s t)

/-- Everything one command can do to the state. -/
theorem exec_effect (i : Instr) (s : State) : Ends (CommandEffect i s) (exec i s) := by
  by_cases hstart : startsMaster i = true
  · exact fun t ht => .start hstart (start_effect i hstart s t ht)
  by_cases hmaster : i = .mintp
  · subst hmaster
    exact ends_whenInited (fun _ t ht => .master rfl (masterInterrupt_effect s t ht)) fun _ =>
      .master rfl (masterEffect_of_rejected s)
  by_cases hslave : i = .sintp
  · subst hslave
    exact ends_whenInited (fun _ t ht => .slave rfl (slaveInterrupt_effect s t ht)) fun _ =>
      .slave rfl (slaveEffect_of_rejected 3 s)
  by_cases hsend : i = .sdsend
  · subst hsend
    exact ends_whenInited (fun _ t ht => .send rfl (slaveTx_effect s t ht) (slaveTx_keeps s t ht)) fun _ =>
      .send rfl (slaveEffect_of_rejected 1 s) ⟨rfl, rfl, rfl, rfl, rfl, id⟩
  · exact fun t ht => .plain (plain_effect i (by simp [isPlain, hstart, hmaster, hslave, hsend]) s t ht)

/-! ## Every step -/

/-- What a step can do, by the host step it takes; a bus access that writes no command word reaches no further than the
UDID bank or one TXBUF byte (R63). -/
inductive StepEffect (s t : State) : Prop
  | wait (hs : s.schedule = []) (ht : t = s)
  | reset (rest : List HostStep) (hs : s.schedule = .hardwareReset :: rest)
      (ht : t = { State.reset with
        trace := s.trace, schedule := rest, arpParams := s.arpParams, freeDraws := s.freeDraws })
  | window (rest : List HostStep) (reply : BusReply) (u : Udid) (w : UdidWritten) (m : Memory)
      (hm : m = s.txbuf ∨ ∃ (k : Nat) (b : Byte), k < bufLen ∧ m = s.txbuf.write k b)
      (ht : t = { s with schedule := rest, reply := reply, udid := u, udidWritten := w, txbuf := m })
  | command (i : Instr) (rest : List HostStep) (inp : Inputs)
      (ht : exec i { s with schedule := rest, inputs := inp, reply := .none } = .next t)
  | illegal (rest : List HostStep) (inp : Inputs)
      (ht : t = { s with schedule := rest, inputs := inp, reply := .none, result := ⟨true, .ok, 0#8⟩ })

/-- A register write writes nothing but the UDID bank and its marks (R33, R63). -/
theorem writeReg_eq (s : State) (offset : Nat) (v : Word) :
    ∃ (u : Udid) (w : UdidWritten), writeReg s offset v = { s with udid := u, udidWritten := w } := by
  unfold writeReg
  split <;> exact ⟨_, _, rfl⟩

/-- An access that writes no more than the reply, the UDID bank or one TXBUF byte. -/
theorem ends_window {s : State} {rest : List HostStep} (reply : BusReply) (u : Udid) (w : UdidWritten) (m : Memory)
    (hm : m = s.txbuf ∨ ∃ (k : Nat) (b : Byte), k < bufLen ∧ m = s.txbuf.write k b) :
    Ends (StepEffect s) (.next { s with schedule := rest, reply := reply, udid := u, udidWritten := w, txbuf := m }) :=
  ends_next (.window rest reply u w m hm rfl)

theorem commandPort_effect (s : State) (rest : List HostStep) (w : Word) (inp : Inputs) :
    Ends (StepEffect s) (commandPort exec w inp { s with schedule := rest }) := by
  unfold commandPort
  split
  · exact fun t ht => .command _ rest inp ht
  · exact ends_next (.illegal rest inp rfl)

theorem regAccess_effect (s : State) (rest : List HostStep) (offset : Nat) (op : BusOp) (inp : Inputs) :
    Ends (StepEffect s) (regAccess exec offset op inp { s with schedule := rest }) := by
  cases op with
  | read => exact ends_window _ s.udid s.udidWritten s.txbuf (.inl rfl)
  | write v =>
    refine ends_ite (fun _ => commandPort_effect s rest v inp) fun _ => ?_
    obtain ⟨u, w, hw⟩ := writeReg_eq { s with schedule := rest } offset v
    rw [answered, hw]
    exact ends_window _ u w s.txbuf (.inl rfl)

theorem txWindow_effect (s : State) (rest : List HostStep) {k : Nat} (hk : k < bufLen) (op : BusOp) :
    Ends (StepEffect s) (txWindow k op { s with schedule := rest }) := by
  cases op with
  | read => exact ends_withTxByte fun _ _ => ends_window _ s.udid s.udidWritten s.txbuf (.inl rfl)
  | write v => exact ends_window _ s.udid s.udidWritten _ (.inr ⟨k, _, hk, rfl⟩)

theorem rxWindow_effect (s : State) (rest : List HostStep) (k : Nat) (op : BusOp) :
    Ends (StepEffect s) (rxWindow k op { s with schedule := rest }) := by
  cases op with
  | read =>
    dsimp only [rxWindow]
    split
    · exact ends_window _ s.udid s.udidWritten s.txbuf (.inl rfl)
    · exact ends_fault _
  | write v => exact ends_window _ s.udid s.udidWritten s.txbuf (.inl rfl)

theorem busAccess_effect (s : State) (rest : List HostStep) (width : Width) (offset : Nat) (op : BusOp)
    (inp : Inputs) : Ends (StepEffect s) (busAccess exec width offset op inp { s with schedule := rest }) := by
  have refused : Ends (StepEffect s) (refusedAccess { s with schedule := rest }) :=
    ends_window _ s.udid s.udidWritten s.txbuf (.inl rfl)
  refine ends_ite (fun _ => ends_ite (fun _ => regAccess_effect s rest offset op inp) fun _ => refused) fun _ =>
    ends_ite (fun _ => ends_ite (fun _ => ends_ite (fun htx => ?_) fun _ => rxWindow_effect s rest _ op)
      fun _ => refused) fun _ => ends_fault _
  exact txWindow_effect s rest (by simp only [bufLen]; omega) op

/-- Everything one step can do to the state. -/
theorem step_effect (s : State) : Ends (StepEffect s) (step s) := by
  match hs : s.schedule with
  | [] =>
    rw [step, hostTurn, hs]
    exact ends_next (.wait hs rfl)
  | .hardwareReset :: rest =>
    rw [step_of_schedule hs]
    exact ends_next (.reset rest hs rfl)
  | .access width offset op inp :: rest =>
    rw [step_of_schedule hs]
    exact busAccess_effect s rest width offset op inp

end Sys2Proof.Machine
end

section
/-! The invariant `Good`: at reset (O9) and over every step (O10). -/

namespace Sys2Proof.Machine

/-! ## The parts of the invariant -/

/-- A counter that stands still or moves by one below its size stays within it (R11, R21). -/
theorem index_le_of_move {i j n : Byte} (h : j = i ∨ (i < n ∧ j = i + 1#8)) (hi : i ≤ n) : j ≤ n := by
  rcases h with rfl | ⟨hlt, rfl⟩
  · exact hi
  · rw [BitVec.le_def, toNat_succ_of_lt hlt]
    exact hlt

/-- The receive side of a command keeps RXBUF canonical, as a byte index is inside the space (R62). -/
theorem rxbuf_wf_of_move {s t : State} {adopts : Prop} (h : RxMove s t adopts) (hs : s.rxbuf.wf) : t.rxbuf.wf := by
  rcases h with ⟨hbuf, -⟩ | ⟨-, -, -, hbuf⟩ | ⟨-, hbuf, -⟩
  · exact hbuf ▸ hs
  · exact hbuf ▸ Memory.wf_write_byte hs _ _
  · exact hbuf ▸ hs

theorem udidEncode_length (u : Udid) (a : Byte) : (udidEncode u a).length = 17 := rfl

/-- The UDID packet fits in TXBUF (R300, R303). -/
theorem wf_write_packet {m : Memory} (h : m.wf) (u : Udid) (a : Byte) : (m.writeBytes 0 (udidEncode u a)).wf :=
  Memory.wf_writeBytes h _ (by simp [udidEncode_length, bufLen])

/-! ## Every command keeps it -/

theorem MasterEffect.keeps_good {s t : State} (h : MasterEffect s t) (hs : s.Good) : t.Good where
  txbuf_wf := h.txbuf_eq.symm ▸ hs.txbuf_wf
  rxbuf_wf := rxbuf_wf_of_move h.rx hs.rxbuf_wf
  tx_index_le := h.txSize_eq.symm ▸ index_le_of_move h.tx hs.tx_index_le
  master_handled := (h.handled hs.master_handled).1
  slave_own := by
    rcases h.slave with hsame | ⟨hturn, -⟩
    · exact hsame ▸ hs.slave_own
    · exact .inr hturn

theorem SlaveEffect.keeps_good {n : Nat} {s t : State} (h : SlaveEffect n s t) (hs : s.Good) : t.Good where
  txbuf_wf := h.txbuf_eq.symm ▸ hs.txbuf_wf
  rxbuf_wf := rxbuf_wf_of_move h.rx hs.rxbuf_wf
  tx_index_le := h.txSize_eq.symm ▸ index_le_of_move h.tx hs.tx_index_le
  master_handled := h.masterCursor_eq.symm ▸ hs.master_handled
  slave_own := by
    rcases h.slave with hsame | hown
    · exact hsame ▸ hs.slave_own
    · exact .inl hown

theorem StartEffect.keeps_good {i : Instr} {s t : State} (h : StartEffect i s t) (hs : s.Good) : t.Good where
  txbuf_wf := by
    rcases h.buf with hsame | ⟨x, -, hpacket⟩ | ⟨x, -, hzeros⟩
    · exact hsame ▸ hs.txbuf_wf
    · exact hpacket ▸ wf_write_packet hs.txbuf_wf _ _
    · exact hzeros ▸ Memory.wf_write (Memory.wf_write hs.txbuf_wf (by decide) _) (by decide) _
  rxbuf_wf := h.rxbuf_eq.symm ▸ hs.rxbuf_wf
  tx_index_le := h.index hs.tx_index_le
  master_handled := h.handled hs.master_handled
  slave_own := by
    rcases h.slave with hsame | ⟨hturn, -⟩
    · exact hsame ▸ hs.slave_own
    · exact .inr hturn

theorem PlainEffect.keeps_good {i : Instr} {s t : State} (h : PlainEffect i s t) (hs : s.Good) : t.Good := by
  obtain ⟨htx, hrx, hle, hmaster, hslave⟩ := hs
  cases h with
  | report | emits | setsFlags | ownAddress | bindsUdid | decodesUdid | rxDeclared =>
    exact ⟨htx, hrx, hle, hmaster, hslave⟩
  | masterInit | slaveInit => exact ⟨htx, hrx, zero_le_byte _, rfl, .inl rfl⟩
  | transferInit => exact ⟨htx, hrx, zero_le_byte _, hmaster, .inl rfl⟩
  | txDeclared => exact ⟨htx, hrx, zero_le_byte _, hmaster, hslave⟩
  | encodesUdid x hm => exact ⟨hm ▸ wf_write_packet htx s.udid x, hrx, hle, hmaster, hslave⟩

/-- Every command keeps the invariant. -/
theorem exec_keeps_good {i : Instr} {s t : State} (h : exec i s = .next t) (hs : s.Good) : t.Good := by
  cases exec_effect i s t h with
  | start _ h => exact h.keeps_good hs
  | master _ h => exact h.keeps_good hs
  | slave _ h => exact h.keeps_good hs
  | send _ h _ => exact h.keeps_good hs
  | plain h => exact h.keeps_good hs

/-! ## Reset and every step -/

/-- The reset values are good whatever the fields that survive a hardware reset hold (log entry 13). -/
theorem good_of_reset_fields (tr : List Action) (rest : List HostStep) (p : ArpParams) (n : Nat) :
    ({ State.reset with trace := tr, schedule := rest, arpParams := p, freeDraws := n } : State).Good where
  txbuf_wf := State.reset_wf.1
  rxbuf_wf := State.reset_wf.2
  tx_index_le := zero_le_byte _
  master_handled := rfl
  slave_own := .inl rfl

/-- Settles O9: the buffers are empty, the counters 0 and the cursors Idle (log entry 1). -/
theorem resetIsGood : Obligations.ResetIsGood := good_of_reset_fields _ _ _ _

/-- Settles O10, by the effect of the step: the host's side of the state is not in the invariant, a TXBUF byte of the
window is written inside the space, and a command keeps the invariant by its own effect. -/
theorem stepKeepsGood : Obligations.StepKeepsGood := by
  intro s t hs hstep
  obtain ⟨htx, hrx, hle, hmaster, hslave⟩ := id hs
  cases step_effect s t hstep with
  | wait _ ht => exact ht ▸ hs
  | reset rest _ ht => exact ht ▸ good_of_reset_fields _ _ _ _
  | window rest reply u w m hm ht =>
    subst ht
    refine ⟨?_, hrx, hle, hmaster, hslave⟩
    rcases hm with rfl | ⟨k, b, hk, rfl⟩
    · exact htx
    · exact Memory.wf_write htx hk b
  | command i rest inp ht => exact exec_keeps_good ht ⟨htx, hrx, hle, hmaster, hslave⟩
  | illegal rest inp ht => exact ht ▸ ⟨htx, hrx, hle, hmaster, hslave⟩

end Sys2Proof.Machine
end

section
/-! `inited` (O7), the meeting of the two engines (O23), hardware reset (O8) and the register writes (O13). -/

namespace Sys2Proof.Machine

/-! ## `inited` (R34) -/

theorem PlainEffect.inited_cases {i : Instr} {s t : State} (h : PlainEffect i s t) :
    t.inited = s.inited ∨ (t.inited = true ∧ (i = .minit ∨ i = .sinit)) := by
  cases h with
  | masterInit => exact .inr ⟨rfl, .inl rfl⟩
  | slaveInit => exact .inr ⟨rfl, .inr rfl⟩
  | _ => exact .inl rfl

/-- A command leaves `inited`, or is an init and sets it. -/
theorem exec_inited_cases {i : Instr} {s t : State} (h : exec i s = .next t) :
    t.inited = s.inited ∨ (t.inited = true ∧ (i = .minit ∨ i = .sinit)) := by
  cases exec_effect i s t h with
  | start _ h => exact .inl h.inited_eq
  | master _ h => exact .inl h.inited_eq
  | slave _ h => exact .inl h.inited_eq
  | send _ h _ => exact .inl h.inited_eq
  | plain h => exact h.inited_cases

theorem exec_keeps_inited {i : Instr} {s t : State} (h : exec i s = .next t) (hs : s.inited = true) :
    t.inited = true := by
  rcases exec_inited_cases h with hsame | ⟨hset, -⟩
  · exact hsame.trans hs
  · exact hset

/-- Before the init every command but the inits is rejected with CmdErr, and writes nothing but `result` (R34, R322). -/
theorem exec_of_not_inited (i : Instr) {s : State} (hs : s.inited = false) (hm : i ≠ .minit) (hi : i ≠ .sinit) :
    exec i s = .next { s with result := { err := true, status := .ok, data := 0#8 } } := by
  cases i
  case minit => exact absurd rfl hm
  case sinit => exact absurd rfl hi
  all_goals exact whenInited_of_false hs _

/-- What a scheduled hardware reset leaves (R350a; log entries 1 and 13). -/
theorem step_of_reset {s : State} {rest : List HostStep} (hs : s.schedule = .hardwareReset :: rest) :
    step s = .next { State.reset with
      trace := s.trace, schedule := rest, arpParams := s.arpParams, freeDraws := s.freeDraws } := by
  rw [step_of_schedule hs]
  rfl

/-- Only a hardware reset step clears `inited`. -/
theorem reset_of_step_clears_inited {s t : State} (h : step s = .next t) (hs : s.inited = true)
    (ht : t.inited = false) : ∃ rest, s.schedule = .hardwareReset :: rest := by
  have clash (hkept : t.inited = true) : ∃ rest, s.schedule = .hardwareReset :: rest := by
    simp [hkept] at ht
  cases step_effect s t h with
  | wait _ heq => exact clash (heq ▸ hs)
  | reset rest hrest _ => exact ⟨rest, hrest⟩
  | window _ _ _ _ _ _ heq => exact clash (heq ▸ hs)
  | command _ _ _ hrun => exact clash (exec_keeps_inited hrun hs)
  | illegal _ _ heq => exact clash (heq ▸ hs)

/-- Settles O7, by the effects of a command and of a step on `inited`. -/
theorem onlyInitsRunBeforeInit : Obligations.OnlyInitsRunBeforeInit := by
  refine ⟨rfl, fun s => ⟨⟨_, rfl, rfl⟩, ⟨_, rfl, rfl⟩⟩, fun s rest hs => ⟨_, step_of_reset hs, rfl⟩,
    fun s t => reset_of_step_clears_inited, fun i s t => exec_keeps_inited, fun i s t h hs ht => ?_,
    fun i s => exec_of_not_inited i⟩
  rcases exec_inited_cases h with hsame | ⟨-, hinit⟩
  · simp [hsame, hs] at ht
  · exact hinit

/-! ## The two engines (R29) -/

theorem PlainEffect.masterCursor_cases {i : Instr} {s t : State} (h : PlainEffect i s t) :
    t.masterCursor = s.masterCursor ∨ i = .minit ∨ i = .sinit := by
  cases h with
  | masterInit => exact .inr (.inl rfl)
  | slaveInit => exact .inr (.inr rfl)
  | _ => exact .inl rfl

theorem PlainEffect.slaveCursor_cases {i : Instr} {s t : State} (h : PlainEffect i s t) :
    t.slaveCursor = s.slaveCursor ∨ i = .sxferinit ∨ i = .minit ∨ i = .sinit := by
  cases h with
  | transferInit => exact .inr (.inl rfl)
  | masterInit => exact .inr (.inr (.inl rfl))
  | slaveInit => exact .inr (.inr (.inr rfl))
  | _ => exact .inl rfl

theorem masterCursor_changed_by {i : Instr} {s t : State} (h : exec i s = .next t)
    (hchanged : t.masterCursor ≠ s.masterCursor) : i = .mintp ∨ startsMaster i = true ∨ i = .minit ∨ i = .sinit := by
  cases exec_effect i s t h with
  | start hi _ => exact .inr (.inl hi)
  | master hi _ => exact .inl hi
  | slave _ h => exact absurd h.masterCursor_eq hchanged
  | send _ h _ => exact absurd h.masterCursor_eq hchanged
  | plain h => exact .inr (.inr (h.masterCursor_cases.resolve_left hchanged))

theorem slaveCursor_changed_by {i : Instr} {s t : State} (h : exec i s = .next t)
    (hchanged : t.slaveCursor ≠ s.slaveCursor) :
    (i = .sintp ∨ i = .sdsend ∨ i = .sxferinit ∨ i = .minit ∨ i = .sinit) ∨
      (t.slaveCursor = turnaroundCursor ∧ t.masterCursor = .readFirst ∧
        ((i = .mintp ∧ s.masterCursor = .writeFinal ∧ s.flags.pc = true) ∨ ∃ a n, i = .mi2cwrrd a 1#8 n)) := by
  cases exec_effect i s t h with
  | start _ h =>
    obtain ⟨hturn, hfirst, hrow⟩ := h.slave.resolve_left hchanged
    exact .inr ⟨hturn, hfirst, .inr hrow⟩
  | master hi h =>
    obtain ⟨hturn, hfirst, hfinal, hpc⟩ := h.slave.resolve_left hchanged
    exact .inr ⟨hturn, hfirst, .inl ⟨hi, hfinal, hpc⟩⟩
  | slave hi _ => exact .inl (.inl hi)
  | send hi _ _ => exact .inl (.inr (.inl hi))
  | plain h => exact .inl (.inr (.inr (h.slaveCursor_cases.resolve_left hchanged)))

/-- Settles O23: each engine's effect leaves the other's cursor alone but for the turn-around write. -/
theorem enginesMeetOnlyAtTheTurnAround : Obligations.EnginesMeetOnlyAtTheTurnAround :=
  fun _ _ _ h => ⟨masterCursor_changed_by h, slaveCursor_changed_by h⟩

/-! ## Hardware reset (R40, R350, R352) -/

/-- Settles O8. -/
theorem resetIsQuiet : Obligations.ResetIsQuiet := by
  refine ⟨rfl, rfl, rfl, fun s hs => ?_, fun s rest hs => ⟨_, step_of_reset hs, rfl, rfl, rfl, rfl, rfl⟩⟩
  simp only [step, hostTurn, hs]

/-! ## Register writes (R33, R63, R70) -/

/-- A write of a register other than `CMD` is `writeReg`, and answers the host nothing. -/
theorem step_of_register_write {s : State} {offset : Nat} {v : Word} {inp : Inputs} {rest : List HostStep}
    (hs : s.schedule = .access .word offset (.write v) inp :: rest) (haligned : offset % 4 = 0)
    (hpos : 0 < offset) (hlow : offset < 0x100) :
    step s = .next { writeReg { s with schedule := rest } offset v with reply := .none } := by
  rw [step_of_schedule hs, hostStep, busAccess_of_register exec haligned hlow]
  simp only [regAccess, answered, if_neg (Nat.ne_of_gt hpos)]

/-- Outside 0x40 to 0x5F a write stores nothing (R33, R70). -/
theorem writeReg_of_readOnly (s : State) {offset : Nat} (v : Word) (h : offset < 0x40 ∨ 0x60 ≤ offset) :
    writeReg s offset v = s := by
  rw [writeReg] <;> omega

/-- Settles O13: a write at one of the eight UDID offsets is its row of `writeReg`, at any other it is ignored. -/
theorem registerWrites : Obligations.RegisterWrites := by
  intro s rest inp offset v hs
  refine ⟨fun haligned hpos hlow hro => ?_, ?_, ?_, ?_, ?_, ?_, ?_, ?_, ?_⟩
  · rw [step_of_register_write hs haligned hpos hlow, writeReg_of_readOnly _ v hro]
  all_goals
    rintro rfl
    exact step_of_register_write hs (by decide) (by decide) (by decide)

end Sys2Proof.Machine
end

section
/-! The flag table of R31 (O21). -/

namespace Sys2Proof.Machine

/-- A flag that goes from 0 to 1 only where `sets` holds, and from 1 to 0 only where `clears` does. -/
def FlagMove (a b : Bool) (sets clears : Prop) : Prop :=
  (a = false → b = true → sets) ∧ (a = true → b = false → clears)

theorem FlagMove.kept {a b : Bool} {sets clears : Prop} (h : b = a) : FlagMove a b sets clears := by
  subst h
  exact ⟨fun h0 h1 => by simp [h0] at h1, fun h1 h0 => by simp [h1] at h0⟩

theorem FlagMove.toOne {a : Bool} {sets clears : Prop} (h : sets) : FlagMove a true sets clears :=
  ⟨fun _ _ => h, nofun⟩

theorem FlagMove.toZero {a : Bool} {sets clears : Prop} (h : clears) : FlagMove a false sets clears :=
  ⟨nofun, fun _ _ => h⟩

theorem FlagMove.of_sets {a b : Bool} {sets clears : Prop} (h : b = true → a = true ∨ sets) (hc : clears) :
    FlagMove a b sets clears :=
  ⟨fun h0 h1 => (h h1).resolve_left (by simp [h0]), fun _ _ => hc⟩

theorem FlagMove.of_clears {a b : Bool} {sets clears : Prop} (h : b = a ∨ (b = false ∧ clears)) :
    FlagMove a b sets clears := by
  rcases h with hkept | ⟨hb, hc⟩
  · exact .kept hkept
  · exact hb ▸ .toZero hc

/-- What R31 lets the command `i` do to the flags, `f` before and `g` after: for each flag the commands that set it,
then those that clear it. -/
structure FlagTable (i : Instr) (f g : Flags) : Prop where
  pec : FlagMove f.pec g.pec (i = .pecen) (i = .pecdis ∨ i = .minit ∨ i = .sinit ∨
    (∃ a b, i = .mquick a b) ∨ (∃ a n, i = .mi2cwr a n) ∨ (∃ a n, i = .mi2crd a n) ∨ ∃ a m n, i = .mi2cwrrd a m n)
  pc : FlagMove f.pc g.pc
    (i = .spcen ∨ (∃ a c, i = .mpcall a c) ∨ (∃ a c n, i = .mbpcall a c n) ∨ ∃ a m n, i = .mi2cwrrd a m n)
    (i = .spcdis ∨ i = .minit ∨ i = .sinit ∨ startsMaster i = true)
  blk : FlagMove f.blk g.blk
    (i = .sblken ∨ (∃ a c n, i = .mblkwr a c n) ∨ (∃ a c, i = .mblkrd a c) ∨ (∃ a c n, i = .mbpcall a c n) ∨
      i = .arpgug ∨ (∃ a, i = .arpgud a) ∨ ∃ x, i = .arpassign x)
    (i = .sblkdis ∨ i = .minit ∨ i = .sinit ∨ startsMaster i = true)
  tip : FlagMove f.tip g.tip (startsMaster i = true ∨ i = .sintp ∨ i = .sdsend)
    (i = .mintp ∨ i = .sintp ∨ i = .sxferinit ∨ i = .minit ∨ i = .sinit)
  raw : FlagMove f.raw g.raw
    (i = .si2cen ∨ (∃ a n, i = .mi2cwr a n) ∨ (∃ a n, i = .mi2crd a n) ∨ ∃ a m n, i = .mi2cwrrd a m n)
    (i = .si2cdis ∨ i = .minit ∨ i = .sinit ∨ startsMaster i = true)
  ar : FlagMove f.ar g.ar (i = .sarset true) (i = .sarset false ∨ i = .minit ∨ i = .sinit)
  av : FlagMove f.av g.av (i = .savset true) (i = .savset false ∨ i = .minit ∨ i = .sinit)
  arp : FlagMove f.arp g.arp (i = .arpen) (i = .arpdis ∨ i = .minit ∨ i = .sinit)

/-- A command that moves no flag but TIP. -/
theorem FlagTable.of_tip {i : Instr} {f g : Flags} (h : g = { f with tip := g.tip })
    (htip : FlagMove f.tip g.tip (startsMaster i = true ∨ i = .sintp ∨ i = .sdsend)
      (i = .mintp ∨ i = .sintp ∨ i = .sxferinit ∨ i = .minit ∨ i = .sinit)) : FlagTable i f g where
  pec := .kept (by rw [h])
  pc := .kept (by rw [h])
  blk := .kept (by rw [h])
  tip := htip
  raw := .kept (by rw [h])
  ar := .kept (by rw [h])
  av := .kept (by rw [h])
  arp := .kept (by rw [h])

theorem FlagTable.refl (i : Instr) (f : Flags) : FlagTable i f f := .of_tip rfl (.kept rfl)

/-- The inits clear all eight flags (R121). -/
theorem flagTable_of_init {i : Instr} (hi : i = .minit ∨ i = .sinit) (f : Flags) : FlagTable i f .clear where
  pec := .toZero (.inr (hi.imp_right .inl))
  pc := .toZero (.inr (hi.imp_right .inl))
  blk := .toZero (.inr (hi.imp_right .inl))
  tip := .toZero (.inr (.inr (.inr hi)))
  raw := .toZero (.inr (hi.imp_right .inl))
  ar := .toZero (.inr hi)
  av := .toZero (.inr hi)
  arp := .toZero (.inr hi)

/-- A setter moves the one flag of its own row. -/
theorem flagTable_of_setting {i : Instr} {f g : Flags} (h : flagSetting i f = some g) : FlagTable i f g := by
  cases i
  case pecen => cases h; exact { FlagTable.refl .pecen f with pec := .toOne rfl }
  case pecdis => cases h; exact { FlagTable.refl .pecdis f with pec := .toZero (.inl rfl) }
  case arpen => cases h; exact { FlagTable.refl .arpen f with arp := .toOne rfl }
  case arpdis => cases h; exact { FlagTable.refl .arpdis f with arp := .toZero (.inl rfl) }
  case spcen => cases h; exact { FlagTable.refl .spcen f with pc := .toOne (.inl rfl) }
  case spcdis => cases h; exact { FlagTable.refl .spcdis f with pc := .toZero (.inl rfl) }
  case sblken => cases h; exact { FlagTable.refl .sblken f with blk := .toOne (.inl rfl) }
  case sblkdis => cases h; exact { FlagTable.refl .sblkdis f with blk := .toZero (.inl rfl) }
  case si2cen => cases h; exact { FlagTable.refl .si2cen f with raw := .toOne (.inl rfl) }
  case si2cdis => cases h; exact { FlagTable.refl .si2cdis f with raw := .toZero (.inl rfl) }
  case sarset v =>
    cases h
    exact { FlagTable.refl (.sarset v) f with ar := ⟨fun _ h1 => h1 ▸ rfl, fun _ h0 => .inl (h0 ▸ rfl)⟩ }
  case savset v =>
    cases h
    exact { FlagTable.refl (.savset v) f with av := ⟨fun _ h1 => h1 ▸ rfl, fun _ h0 => .inl (h0 ▸ rfl)⟩ }
  all_goals cases h

theorem PlainEffect.flagTable {i : Instr} {s t : State} (h : PlainEffect i s t) : FlagTable i s.flags t.flags := by
  cases h with
  | masterInit => exact flagTable_of_init (.inl rfl) s.flags
  | slaveInit => exact flagTable_of_init (.inr rfl) s.flags
  | transferInit => exact .of_tip rfl (.of_clears (.inr ⟨rfl, .inr (.inr (.inl rfl))⟩))
  | setsFlags hf => exact flagTable_of_setting hf
  | _ => exact .refl _ s.flags

/-- A start command may clear PEC, PC, BLK and RAW, sets those its row names, and sets TIP (R174, R176). -/
theorem StartEffect.flagTable {i : Instr} {s t : State} (hi : startsMaster i = true) (h : StartEffect i s t) :
    FlagTable i s.flags t.flags := by
  have written {a b : Bool} {setter clearer rows : Prop} (hb : b = a ∨ b = false ∨ rows) :
      FlagMove a b (setter ∨ rows) (clearer ∨ i = .minit ∨ i = .sinit ∨ startsMaster i = true) := by
    refine .of_sets (fun h1 => ?_) (.inr (.inr (.inr hi)))
    rcases hb with rfl | h0 | hrow
    · exact .inl h1
    · simp [h0] at h1
    · exact .inr (.inr hrow)
  exact
    { pec := .of_clears (h.pec.imp_right fun ⟨h0, hrow⟩ => ⟨h0, .inr (.inr (.inr hrow))⟩)
      pc := written h.pc
      blk := written h.blk
      tip := ⟨fun _ _ => .inl hi, fun h1 h0 => by simp [h.tip h1] at h0⟩
      raw := written h.raw
      ar := .kept h.ar_eq
      av := .kept h.av_eq
      arp := .kept h.arp_eq }

/-- Every command moves the flags as R31 has it. -/
theorem exec_flagTable {i : Instr} {s t : State} (h : exec i s = .next t) : FlagTable i s.flags t.flags := by
  cases exec_effect i s t h with
  | start hi h => exact h.flagTable hi
  | master hi h => exact .of_tip h.flags_eq (.of_sets (fun h1 => .inl (h.tip h1)) (.inl hi))
  | slave hi h => exact .of_tip h.flags_eq ⟨fun _ _ => .inr (.inl hi), fun _ _ => .inr (.inl hi)⟩
  | send hi h hk =>
    exact .of_tip h.flags_eq ⟨fun _ _ => .inr (.inr hi), fun h1 h0 => by simp [hk.tip h1] at h0⟩
  | plain h => exact h.flagTable

/-- Settles O21: the sixteen clauses are the rows of `FlagTable`. -/
theorem flagsChangeOnlyByTheirCommands : Obligations.FlagsChangeOnlyByTheirCommands := by
  intro i s t h
  obtain ⟨⟨pec1, pec0⟩, ⟨pc1, pc0⟩, ⟨blk1, blk0⟩, ⟨tip1, tip0⟩, ⟨raw1, raw0⟩, ⟨ar1, ar0⟩, ⟨av1, av0⟩, ⟨arp1, arp0⟩⟩ :=
    exec_flagTable h
  exact ⟨pec1, pec0, pc1, pc0, blk1, blk0, tip1, tip0, raw1, raw0, ar1, ar0, av1, av0, arp1, arp0⟩

end Sys2Proof.Machine
end

section
/-! SINTP: a later received byte, for every cursor (O54). -/

namespace Sys2Proof.Machine

/-- The state a DATA interrupt is handled in: both interrupt clears stand in the trace (R250, R251). -/
def State.dataCleared (s : State) : State := { s with trace := s.trace ++ (startClear s ++ [.sIclrData]) }

/-- On an initialised block with DATA and receive status SINTP is the receive dispatch (R250, R255,
R260). -/
theorem sintp_of_receive {s : State} (hinit : s.inited = true) (hstop : s.inputs.intStop = false)
    (hdata : s.inputs.intData = true) (hfbr : s.inputs.stFbr = false) (hrreq : s.inputs.stRreq = true) :
    exec .sintp s = slaveReceive s.dataCleared := by
  rw [show exec .sintp s = whenInited s (slaveInterrupt s) from rfl, whenInited_of_true hinit, slaveInterrupt_eq]
  simp [slaveData, State.dataCleared, hstop, hdata, hfbr, hrreq]

/-! ## The receive dispatch, by the cursor (R258, R260) -/

theorem slaveReceive_of_blockSize {s : State} (hcur : s.slaveCursor = .slavePostCommand) (hblk : s.flags.blk = true) :
    slaveReceive s = slaveBlockSize (s.emit .sGet) s.inputs.data := by
  simp [slaveReceive, hcur, hblk]

theorem slaveReceive_of_payload {s : State}
    (h : (s.slaveCursor = .slavePostCommand ∧ s.flags.blk = false) ∨ s.slaveCursor = .readNext) :
    slaveReceive s = storePayload (s.emit .sGet) s.inputs.data := by
  rcases h with ⟨hcur, hblk⟩ | hcur
  · simp [slaveReceive, hcur, hblk]
  · simp [slaveReceive, hcur]

theorem slaveReceive_of_readPec {s : State} (hcur : s.slaveCursor = .readPec) :
    slaveReceive s = slaveReadPec (s.emit .sGet) s.inputs.data := by
  simp [slaveReceive, hcur]

/-- A byte with no handler is discarded (R268). -/
theorem slaveReceive_of_unexpected {s : State} (hpost : s.slaveCursor ≠ .slavePostCommand)
    (hnext : s.slaveCursor ≠ .readNext) (hpec : s.slaveCursor ≠ .readPec) :
    slaveReceive s = finish (s.emit .sGet) .slaveError 0#8 := by
  cases hcur : s.slaveCursor
  case slavePostCommand => exact absurd hcur hpost
  case readNext => exact absurd hcur hnext
  case readPec => exact absurd hcur hpec
  all_goals simp only [slaveReceive, hcur]

/-! ## The handlers, path by path -/

/-- A size above the capacity is rejected (R263). -/
theorem slaveBlockSize_of_above {s : State} {b : Byte} (h : s.rxSize < b) :
    slaveBlockSize s b = .next { s with slaveCursor := .readDone, result := ⟨false, .dataSizeError, 0#8⟩ } := by
  rw [slaveBlockSize, if_pos h]
  rfl

/-- A size within the capacity is adopted and folded (R263). -/
theorem slaveBlockSize_of_within {s : State} {b : Byte} (h : b ≤ s.rxSize) :
    slaveBlockSize s b = .next { s with
      rxSize := b, computedCrc := if s.flags.pec = true then crc8 s.computedCrc [b] else s.computedCrc,
      slaveCursor := .readNext, result := ⟨false, .ok, 0#8⟩ } := by
  rw [slaveBlockSize, if_neg (by simpa [BitVec.lt_def, BitVec.le_def] using h)]
  rfl

/-- With the buffer full the byte is dropped (R258). -/
theorem storePayload_of_full {s : State} (b : Byte) (h : s.rxSize ≤ s.rxIndex) :
    storePayload s b = .next { s with result := ⟨false, .slaveError, 0#8⟩ } := by
  rw [storePayload, if_pos h]
  rfl

theorem afterStore_eq (s : State) : afterStore s = if s.rxIndex = s.rxSize
    then (if s.flags.pec = true ∧ s.flags.pc = false then .readPec else .readDone) else .readNext := by
  simp [afterStore]

/-- With room the byte is stored at `rx_index` and folded (R258). -/
theorem storePayload_of_room {s : State} (b : Byte) (h : s.rxIndex < s.rxSize) :
    storePayload s b = .next { s with
      rxbuf := s.rxbuf.write s.rxIndex.toNat b, rxIndex := s.rxIndex + 1#8,
      computedCrc := if s.flags.pec = true then crc8 s.computedCrc [b] else s.computedCrc,
      slaveCursor := if s.rxIndex + 1#8 = s.rxSize
        then (if s.flags.pec = true ∧ s.flags.pc = false then .readPec else .readDone) else .readNext,
      result := ⟨false, .ok, 0#8⟩ } := by
  rw [storePayload, if_neg (by simpa [BitVec.lt_def, BitVec.le_def] using h)]
  dsimp only
  rw [afterStore_eq]
  rfl

/-- With PEC on the byte is the received CRC, stored and compared (R267). -/
theorem slaveReadPec_of_on {s : State} (b : Byte) (hpec : s.flags.pec = true) :
    slaveReadPec s b = .next { s with
      receivedCrc := b, slaveCursor := if b = s.computedCrc then .readDone else s.slaveCursor,
      result := ⟨false, if b = s.computedCrc then .ok else .pecError, 0#8⟩ } := by
  by_cases heq : b = s.computedCrc
  · simp [slaveReadPec, hpec, heq, State.setSlave]
  · simp [slaveReadPec, hpec, heq]

/-- With PEC off the byte is dropped, and the end is one of three (R25, R131; log entry 21). -/
theorem slaveReadPec_of_off {s : State} (b : Byte) (hcur : s.slaveCursor = .readPec) (hpec : s.flags.pec = false) :
    ∃ (c : Cursor) (st : Status), (c, st) ∈ [(.readDone, .ok), (.readPec, .pecError), (.readPec, .slaveError)] ∧
      slaveReadPec s b =
        .next { s with slaveCursor := c, freeDraws := s.freeDraws + 1, result := ⟨false, st, 0#8⟩ } := by
  have hoff : slaveReadPec s b = slavePecOff s := by simp [slaveReadPec, hpec]
  rw [hoff, ← hcur]
  unfold slavePecOff
  split
  · exact ⟨.readDone, .ok, by simp, rfl⟩
  · exact ⟨s.slaveCursor, .pecError, by simp, rfl⟩
  · exact ⟨s.slaveCursor, .slaveError, by simp, rfl⟩

/-- Settles O54: SINTP is the receive dispatch, and each clause is one path of its handlers. -/
theorem slaveTakesNextByte : Obligations.SlaveTakesNextByte := by
  rintro s got b hinit hstop hdata hfbr hrreq rfl rfl
  have htrace : s.trace ++ ((if s.inputs.intStart = true then [.sIclrStart] else []) ++ [.sIclrData, .sGet]) =
      (s.dataCleared.emit .sGet).trace := by
    simp [State.dataCleared, startClear]
  rw [sintp_of_receive hinit hstop hdata hfbr hrreq, htrace]
  refine ⟨fun hcur hblk h => ?_, fun hcur hblk h => ?_, fun hcur h => ?_, fun hcur h => ?_, fun hcur hpec => ?_,
    fun hcur hpec => ?_, fun hpost hnext hpec => ?_⟩
  · exact (slaveReceive_of_blockSize (s := s.dataCleared) hcur hblk).trans (slaveBlockSize_of_above h)
  · exact (slaveReceive_of_blockSize (s := s.dataCleared) hcur hblk).trans (slaveBlockSize_of_within h)
  · exact (slaveReceive_of_payload (s := s.dataCleared) hcur).trans (storePayload_of_full _ h)
  · exact ⟨_, (slaveReceive_of_payload (s := s.dataCleared) hcur).trans (storePayload_of_room _ h),
      fun a => Memory.read_write _ _ _ _⟩
  · rw [← hcur]
    exact (slaveReceive_of_readPec (s := s.dataCleared) hcur).trans (slaveReadPec_of_on _ hpec)
  · rw [slaveReceive_of_readPec (s := s.dataCleared) hcur]
    exact slaveReadPec_of_off (s := s.dataCleared.emit .sGet) _ hcur hpec
  · exact slaveReceive_of_unexpected (s := s.dataCleared) hpost hnext hpec

end Sys2Proof.Machine
end

section
/-! What a command can do to the buffers, `rx_index` and the UDID bank (O22). -/

namespace Sys2Proof.Machine

/-! ## TXBUF and the UDID bank (R33, R60) -/

theorem PlainEffect.txbuf_cases {i : Instr} {s t : State} (h : PlainEffect i s t) :
    t.txbuf = s.txbuf ∨ ∃ x, i = .udidenc x ∧ t.txbuf = s.txbuf.writeBytes 0 (udidEncode s.udid x) := by
  cases h with
  | encodesUdid x hm => exact .inr ⟨x, rfl, hm⟩
  | _ => exact .inl rfl

theorem PlainEffect.udid_cases {i : Instr} {s t : State} (h : PlainEffect i s t) :
    t.udid = s.udid ∨ i = .udiddec := by
  cases h with
  | decodesUdid => exact .inr rfl
  | _ => exact .inl rfl

/-- TXBUF is left alone, or takes the UDID packet, or the two zero bytes of ARPNOTIFY. -/
theorem exec_txbuf_cases {i : Instr} {s t : State} (h : exec i s = .next t) :
    t.txbuf = s.txbuf ∨
    (((∃ x, i = .udidenc x) ∨ ∃ x, i = .arpassign x) ∧
      ∃ x, t.txbuf = s.txbuf.writeBytes 0 (udidEncode s.udid x)) ∨
    ((∃ x, i = .arpnotify x) ∧ t.txbuf = (s.txbuf.write 0 0#8).write 1 0#8) := by
  cases exec_effect i s t h with
  | start _ h =>
    rcases h.buf with hsame | ⟨x, hi, hpacket⟩ | ⟨x, hi, hzeros⟩
    · exact .inl hsame
    · exact .inr (.inl ⟨.inr ⟨x, hi⟩, x, hpacket⟩)
    · exact .inr (.inr ⟨⟨x, hi⟩, hzeros⟩)
  | master _ h => exact .inl h.txbuf_eq
  | slave _ h => exact .inl h.txbuf_eq
  | send _ h _ => exact .inl h.txbuf_eq
  | plain h =>
    rcases h.txbuf_cases with hsame | ⟨x, hi, hpacket⟩
    · exact .inl hsame
    · exact .inr (.inl ⟨.inl ⟨x, hi⟩, x, hpacket⟩)

/-- The UDID packet covers the bytes 0 to 16 and no other. -/
theorem read_packet_of_ge (m : Memory) (u : Udid) (x : Byte) {a : Nat} (h : 17 ≤ a) :
    (m.writeBytes 0 (udidEncode u x)).read a = m.read a := by
  rw [Memory.read_writeBytes, if_neg (by rw [udidEncode_length]; omega)]

theorem txbuf_changed_by {i : Instr} {s t : State} (h : exec i s = .next t) (a : Nat)
    (hchanged : t.txbuf.read a ≠ s.txbuf.read a) :
    ((∃ x, i = .udidenc x) ∨ (∃ x, i = .arpassign x)) ∧ a < 17 ∨ (∃ c, i = .arpnotify c) ∧ a < 2 := by
  rcases exec_txbuf_cases h with hsame | ⟨hi, x, hpacket⟩ | ⟨hi, hzeros⟩
  · exact absurd (by rw [hsame]) hchanged
  · refine .inl ⟨hi, Nat.lt_of_not_le fun hge => hchanged ?_⟩
    rw [hpacket, read_packet_of_ge _ _ _ hge]
  · refine .inr ⟨hi, Nat.lt_of_not_le fun hge => hchanged ?_⟩
    rw [hzeros, Memory.read_write, if_neg (by omega), Memory.read_write, if_neg (by omega)]

theorem udid_changed_by {i : Instr} {s t : State} (h : exec i s = .next t) (hchanged : t.udid ≠ s.udid) :
    i = .udiddec := by
  cases exec_effect i s t h with
  | start _ h => exact absurd h.udid_eq hchanged
  | master _ h => exact absurd h.udid_eq hchanged
  | slave _ h => exact absurd h.udid_eq hchanged
  | send _ h _ => exact absurd h.udid_eq hchanged
  | plain h => exact h.udid_cases.resolve_left hchanged

/-! ## The receive side (R22, R62) -/

/-- The commands that zero `rx_index` (R22). -/
def ZeroesRxIndex (i : Instr) : Prop :=
  startsMaster i = true ∨ (∃ n, i = .srxset n) ∨ i = .sxferinit ∨ i = .minit ∨ i = .sinit

/-- Where a received byte is taken as a size: MINTP in `ReadBlockSize` (R224), SINTP after the command byte in block
mode (R263). -/
def AdoptsSize (i : Instr) (s : State) : Prop :=
  (i = .mintp ∧ s.masterCursor = .readBlockSize) ∨
  (i = .sintp ∧ s.slaveCursor = .slavePostCommand ∧ s.flags.blk = true)

/-- What a command can do to RXBUF, `rx_index` and `rx_size`. -/
inductive RxEffect (i : Instr) (s t : State) : Prop
  | kept (hbuf : t.rxbuf = s.rxbuf) (hindex : t.rxIndex = s.rxIndex) (hsize : t.rxSize = s.rxSize)
  | zeroed (hi : ZeroesRxIndex i) (hbuf : t.rxbuf = s.rxbuf) (hindex : t.rxIndex = 0#8)
  | stored (hi : i = .mintp ∨ i = .sintp) (hroom : s.rxIndex < s.rxSize) (hindex : t.rxIndex = s.rxIndex + 1#8)
      (hsize : t.rxSize = s.rxSize) (hbuf : t.rxbuf = s.rxbuf.write s.rxIndex.toNat s.inputs.data)
  | adopted (hi : AdoptsSize i s) (hbuf : t.rxbuf = s.rxbuf) (hindex : t.rxIndex = s.rxIndex)
      (hsize : t.rxSize = s.inputs.data)

theorem RxEffect.of_move {i : Instr} {s t : State} {adopts : Prop} (h : RxMove s t adopts)
    (hi : i = .mintp ∨ i = .sintp) (ha : adopts → AdoptsSize i s) : RxEffect i s t := by
  rcases h with ⟨hbuf, hindex, hsize⟩ | ⟨hroom, hindex, hsize, hbuf⟩ | ⟨hadopts, hbuf, hindex, hsize⟩
  · exact .kept hbuf hindex hsize
  · exact .stored hi hroom hindex hsize hbuf
  · exact .adopted (ha hadopts) hbuf hindex hsize

theorem PlainEffect.rxEffect {i : Instr} {s t : State} (h : PlainEffect i s t) : RxEffect i s t := by
  cases h with
  | masterInit => exact .zeroed (.inr (.inr (.inr (.inl rfl)))) rfl rfl
  | slaveInit => exact .zeroed (.inr (.inr (.inr (.inr rfl)))) rfl rfl
  | transferInit => exact .zeroed (.inr (.inr (.inl rfl))) rfl rfl
  | rxDeclared n => exact .zeroed (.inr (.inl ⟨n, rfl⟩)) rfl rfl
  | _ => exact .kept rfl rfl rfl

/-- Everything one command can do to the receive side. -/
theorem exec_rxEffect {i : Instr} {s t : State} (h : exec i s = .next t) : RxEffect i s t := by
  cases exec_effect i s t h with
  | start hi h =>
    rcases h.rx with ⟨hindex, hsize⟩ | hzero
    · exact .kept h.rxbuf_eq hindex hsize
    · exact .zeroed (.inl hi) h.rxbuf_eq hzero
  | master hi h => exact .of_move h.rx (.inl hi) fun hcur => .inl ⟨hi, hcur⟩
  | slave hi h => exact .of_move h.rx (.inr hi) fun hcur => .inr ⟨hi, hcur⟩
  | send _ _ hk => exact .kept hk.rxbuf hk.rxIndex hk.rxSize
  | plain h => exact h.rxEffect

theorem rxbuf_changed_by {i : Instr} {s t : State} (h : exec i s = .next t) (a : Nat)
    (hchanged : t.rxbuf.read a ≠ s.rxbuf.read a) :
    (i = .mintp ∨ i = .sintp) ∧ a = s.rxIndex.toNat ∧ s.rxIndex < s.rxSize ∧ t.rxIndex = s.rxIndex + 1#8 ∧
      t.rxbuf.read a = some s.inputs.data := by
  cases exec_rxEffect h with
  | kept hbuf _ _ => exact absurd (by rw [hbuf]) hchanged
  | zeroed _ hbuf _ => exact absurd (by rw [hbuf]) hchanged
  | adopted _ hbuf _ _ => exact absurd (by rw [hbuf]) hchanged
  | stored hi hroom hindex _ hbuf =>
    rw [hbuf, Memory.read_write] at hchanged ⊢
    by_cases ha : a = s.rxIndex.toNat
    · exact ⟨hi, ha, hroom, hindex, if_pos ha⟩
    · exact absurd (if_neg ha) hchanged

theorem rxIndex_changed_by {i : Instr} {s t : State} (h : exec i s = .next t) (hchanged : t.rxIndex ≠ s.rxIndex) :
    (t.rxIndex = 0#8 ∧ ZeroesRxIndex i) ∨
      ((i = .mintp ∨ i = .sintp) ∧ s.rxIndex < s.rxSize ∧ t.rxIndex = s.rxIndex + 1#8) := by
  cases exec_rxEffect h with
  | kept _ hindex _ => exact absurd hindex hchanged
  | zeroed hi _ hindex => exact .inl ⟨hindex, hi⟩
  | stored hi hroom hindex _ _ => exact .inr ⟨hi, hroom, hindex⟩
  | adopted _ _ hindex _ => exact absurd hindex hchanged

/-- `rx_index <= rx_size` is lost only where a size is adopted, and then `rx_size` changed (R22; log entry 17). -/
theorem adopted_of_overrun {i : Instr} {s t : State} (h : exec i s = .next t) (hs : s.rxIndex ≤ s.rxSize)
    (ht : t.rxSize < t.rxIndex) :
    AdoptsSize i s ∧ t.rxIndex = s.rxIndex ∧ t.rxSize = s.inputs.data ∧ t.rxSize ≠ s.rxSize := by
  have within (hle : t.rxIndex ≤ t.rxSize) : False := by
    rw [BitVec.lt_def] at ht
    rw [BitVec.le_def] at hle
    omega
  cases exec_rxEffect h with
  | kept _ hindex hsize => exact (within (by rwa [hindex, hsize])).elim
  | zeroed _ _ hindex => exact (within (hindex ▸ zero_le_byte _)).elim
  | stored _ hroom hindex hsize _ =>
    exact (within (hsize ▸ index_le_of_move (.inr ⟨hroom, hindex⟩) hs)).elim
  | adopted hi _ hindex hsize =>
    exact ⟨hi, hindex, hsize, fun hsame => within (by rwa [hindex, hsame])⟩

/-! ## The byte after an adopted size: the master engine (R224 to R230) -/

/-- The positions at which MINTP checks the buffer before it stores, or only ends the transfer: every one that can
follow a size byte. -/
def State.awaitsByte (s : State) : Prop :=
  s.masterCursor = .readErrorStop ∨ s.masterCursor = .readNext ∨ s.masterCursor = .readFinal ∨
    (s.masterCursor = .readWait ∧ s.flags.pec = false)

/-- `select_read` goes to `ReadWait` only for a single last byte. -/
theorem selectRead_awaitsByte (first : Bool) {r : Nat} (s : State) (res : Result)
    (h : r = 1 → s.flags.pec = false) : ((selectRead first r s).setResult res).awaitsByte := by
  unfold selectRead
  split
  · exact .inr (.inr (.inr ⟨rfl, h ‹_›⟩))
  · split
    · exact .inr (.inr (.inl rfl))
    · exact .inr (.inl rfl)

/-- A size byte is at least 1, so with PEC on at least two bytes follow it (R224, R228). -/
theorem masterReadBlockSize_awaitsByte (s : State) : Ends State.awaitsByte (masterReadBlockSize s) := by
  refine ends_ite (fun hok => ends_finish (selectRead_awaitsByte false _ _ fun hr => ?_)) fun _ =>
    ends_finish (.inl rfl)
  obtain ⟨hpos, -⟩ := (blockSizeOk_iff _).1 hok
  cases hp : s.flags.pec with
  | false => exact hp
  | true =>
    have hone : pec1 { s.emit .mGet with rxSize := s.inputs.data } = 1 := by simp [pec1, hp]
    omega

/-- MINTP in `ReadBlockSize` keeps the receive size, or goes where the next byte is awaited. -/
theorem masterInterrupt_awaitsByte {s : State} (hcur : s.masterCursor = .readBlockSize) :
    Ends (fun t => t.rxSize = s.rxSize ∨ t.awaitsByte) (masterInterrupt s) := by
  refine ends_ite (fun _ => ends_finish (.inl rfl)) fun _ => ends_ite (fun _ => ends_finish (.inl rfl)) fun _ =>
    ends_ite (fun _ => ends_finish (.inl ?_)) fun _ => ?_
  · simp only [State.setResult_rxSize]
    split <;> rfl
  · have hdispatch : masterDispatch (s.emit .mIclrData) = masterReadBlockSize (s.emit .mIclrData) := by
      simp only [masterDispatch, State.emit_masterCursor, hcur]
    rw [hdispatch]
    exact fun t ht => .inr (masterReadBlockSize_awaitsByte _ t ht)

/-- A MINTP that adopts a size ran, and the next byte is awaited. -/
theorem mintp_adopts {s t : State} (h : exec .mintp s = .next t) (hcur : s.masterCursor = .readBlockSize)
    (hsize : t.rxSize ≠ s.rxSize) : t.inited = true ∧ t.awaitsByte := by
  rcases whenInited_next h with ⟨hinit, hrun⟩ | ⟨-, rfl⟩
  · exact ⟨exec_keeps_inited h hinit, (masterInterrupt_awaitsByte hcur t hrun).resolve_left hsize⟩
  · exact absurd rfl hsize

/-- Without an error input MINTP is the dispatch on the cursor (R210, R215). -/
theorem mintp_of_noMasterError {s : State} (hinit : s.inited = true) (h : s.inputs.noMasterError = true) :
    exec .mintp s = masterDispatch (s.emit .mIclrData) := by
  simp only [Inputs.noMasterError, Bool.and_eq_true, Bool.not_eq_true'] at h
  obtain ⟨⟨⟨htimeout, harb⟩, haddr⟩, hdata⟩ := h
  rw [show exec .mintp s = whenInited s (masterInterrupt s) from rfl, whenInited_of_true hinit]
  simp [masterInterrupt, htimeout, harb, haddr, hdata]

/-- The outcome is the status, and `rx_index` stands still. -/
def EndsStill (s : State) (st : Status) (o : Out) : Prop :=
  ∃ u, o = .next u ∧ u.result.status = st ∧ u.rxIndex = s.rxIndex

theorem masterEnd_endsStill (s : State) (st : Status) : EndsStill s st (masterEnd s st) :=
  ⟨_, finish_eq _ _ _, rfl, rfl⟩

theorem rxOverrun_endsStill (s : State) : EndsStill s .dataSizeError (rxOverrun s) :=
  ⟨_, finish_eq _ _ _, rfl, rfl⟩

/-- A byte that comes with the buffer full is DataSizeError and is not counted (R226, R227, R229, R230). -/
theorem masterDispatch_of_overrun {s : State} (h : s.awaitsByte) (hfull : s.rxSize ≤ s.rxIndex) :
    EndsStill s .dataSizeError (masterDispatch s) := by
  rcases h with hcur | hcur | hcur | ⟨hcur, hpec⟩
  · simp only [masterDispatch, hcur]
    exact masterEnd_endsStill (s.emit .mGet) _
  · simp only [masterDispatch, hcur, masterReadNext, if_pos hfull]
    exact rxOverrun_endsStill s
  · simp only [masterDispatch, hcur, masterReadFinal, if_pos hfull]
    exact rxOverrun_endsStill s
  · simp only [masterDispatch, hcur, masterReadWait, hpec, if_pos hfull, Bool.false_eq_true, if_false]
    exact masterEnd_endsStill (s.emit .mGet) _

/-- After a size below `rx_index` the next error-free MINTP is DataSizeError (R21, R22). -/
theorem mintp_converts_overrun {t : State} (hinit : t.inited = true) (hawaits : t.awaitsByte)
    (hfull : t.rxSize ≤ t.rxIndex) (x : Inputs) (hx : x.noMasterError = true) :
    EndsStill t .dataSizeError (exec .mintp { t with inputs := x }) := by
  rw [mintp_of_noMasterError (s := { t with inputs := x }) hinit hx]
  exact masterDispatch_of_overrun (s := State.emit { t with inputs := x } .mIclrData) hawaits hfull

/-! ## The byte after an adopted size: the slave engine (R258, R263) -/

/-- The receive size is kept, or a size byte was adopted and payload is awaited (R263). -/
def State.sizeKeptOrRead (s t : State) : Prop := t.rxSize = s.rxSize ∨ t.slaveCursor = .readNext

theorem storePayload_rxSize (s : State) (b : Byte) : Ends s.sizeKeptOrRead (storePayload s b) :=
  ends_ite (fun _ => ends_finish (.inl rfl)) fun _ => ends_finish (.inl rfl)

theorem slaveBlockSize_rxSize (s : State) (b : Byte) : Ends s.sizeKeptOrRead (slaveBlockSize s b) :=
  ends_ite (fun _ => ends_finish (.inl rfl)) fun _ => ends_finish (.inr rfl)

theorem slaveReadPec_rxSize (s : State) (b : Byte) : Ends s.sizeKeptOrRead (slaveReadPec s b) := by
  refine ends_ite (fun _ => ends_ite (fun _ => ends_finish (.inl rfl)) fun _ => ends_finish (.inl rfl)) fun _ => ?_
  unfold slavePecOff
  split <;> exact ends_finish (.inl rfl)

theorem slaveReceive_rxSize (s : State) : Ends s.sizeKeptOrRead (slaveReceive s) := by
  unfold slaveReceive
  dsimp only
  split
  · exact ends_ite (fun _ => slaveBlockSize_rxSize (s.emit .sGet) _) fun _ => storePayload_rxSize (s.emit .sGet) _
  · exact storePayload_rxSize (s.emit .sGet) _
  · exact slaveReadPec_rxSize (s.emit .sGet) _
  all_goals exact ends_finish (.inl rfl)

theorem slaveFirstByte_rxSize (s : State) : Ends s.sizeKeptOrRead (slaveFirstByte s) := by
  refine ends_ite (fun _ => ends_ite (fun _ => ends_fault _) fun _ => ends_finish (.inl ?_)) fun _ =>
    ends_finish (.inl ?_)
  all_goals
    simp only [State.seedSlave, State.captureOwn, State.emit, State.storeRx, State.setSlave, State.setTip,
      State.setResult]

theorem slaveTransmit_rxSize (s : State) : Ends s.sizeKeptOrRead (slaveTransmit s) := by
  intro t ht
  unfold slaveTransmit at ht
  split at ht <;> exact .inl (slaveTx_keeps _ t ht).rxSize

theorem slaveData_rxSize (s : State) : Ends s.sizeKeptOrRead (slaveData s) :=
  ends_ite (fun _ => slaveFirstByte_rxSize s) fun _ => ends_ite (fun _ => slaveReceive_rxSize s) fun _ =>
    ends_ite (fun _ => slaveTransmit_rxSize s) fun _ => ends_finish (.inl rfl)

theorem slaveStop_rxSize (s : State) : Ends s.sizeKeptOrRead (slaveStop s) :=
  ends_ite (fun _ => ends_ite (fun _ => ends_finish (.inl rfl)) fun _ => ends_finish (.inl rfl)) fun _ =>
    ends_finish (.inl rfl)

/-- SINTP changes `rx_size` only by adopting a size. -/
theorem slaveInterrupt_rxSize (s : State) : Ends s.sizeKeptOrRead (slaveInterrupt s) := by
  rw [slaveInterrupt_eq]
  exact ends_ite (fun _ => slaveStop_rxSize { s with trace := _ }) fun _ =>
    ends_ite (fun _ => slaveData_rxSize { s with trace := _ }) fun _ => ends_finish (.inl rfl)

/-- A SINTP that adopts a size ran, and the next byte is payload. -/
theorem sintp_adopts {s t : State} (h : exec .sintp s = .next t) (hsize : t.rxSize ≠ s.rxSize) :
    t.inited = true ∧ t.slaveCursor = .readNext := by
  rcases whenInited_next h with ⟨hinit, hrun⟩ | ⟨-, rfl⟩
  · exact ⟨exec_keeps_inited h hinit, (slaveInterrupt_rxSize s t hrun).resolve_left hsize⟩
  · exact absurd rfl hsize

/-- After a size below `rx_index` the next received byte is SlaveError (R21, R22, R258). -/
theorem sintp_converts_overrun {t : State} (hinit : t.inited = true) (hcur : t.slaveCursor = .readNext)
    (hfull : t.rxSize ≤ t.rxIndex) (x : Inputs) (hstop : x.intStop = false) (hdata : x.intData = true)
    (hfbr : x.stFbr = false) (hrreq : x.stRreq = true) :
    EndsStill t .slaveError (exec .sintp { t with inputs := x }) := by
  rw [sintp_of_receive (s := { t with inputs := x }) hinit hstop hdata hfbr hrreq,
    slaveReceive_of_payload (s := State.dataCleared { t with inputs := x }) (.inr hcur)]
  exact ⟨_, storePayload_of_full (s := (State.dataCleared { t with inputs := x }).emit .sGet) _ hfull, rfl, rfl⟩

/-- Settles O22: each clause is one field of the effect, and an adopted size below `rx_index` is the error of the
next byte, of the master engine or of the slave engine. -/
theorem buffersChangeOnlyByTheirCommands : Obligations.BuffersChangeOnlyByTheirCommands := by
  intro i s t h
  refine ⟨txbuf_changed_by h, rxbuf_changed_by h, rxIndex_changed_by h, fun hs ht => ?_, udid_changed_by h⟩
  obtain ⟨hadopts, hindex, hdata, hsize⟩ := adopted_of_overrun h hs ht
  have hfull : t.rxSize ≤ t.rxIndex := BitVec.le_of_lt ht
  refine ⟨hindex, hdata, ?_⟩
  rcases hadopts with ⟨rfl, hcur⟩ | ⟨rfl, hcur, hblk⟩
  · obtain ⟨hinit, hawaits⟩ := mintp_adopts h hcur hsize
    exact .inl ⟨rfl, hcur, mintp_converts_overrun hinit hawaits hfull⟩
  · obtain ⟨hinit, hnext⟩ := sintp_adopts h hsize
    exact .inr ⟨rfl, hcur, hblk, sintp_converts_overrun hinit hnext hfull⟩

end Sys2Proof.Machine
end

section
/-! With PEC off no command reads a CRC field, and none but the resets writes one (O24). -/

namespace Sys2Proof.Machine

/-- The state with other values in the two CRC fields (R25). -/
def State.withCrc (s : State) (c r : Byte) : State := { s with computedCrc := c, receivedCrc := r }

@[simp] theorem State.withCrc_masterCursor (s : State) (c r : Byte) :
    (s.withCrc c r).masterCursor = s.masterCursor := rfl
@[simp] theorem State.withCrc_slaveCursor (s : State) (c r : Byte) :
    (s.withCrc c r).slaveCursor = s.slaveCursor := rfl
@[simp] theorem State.withCrc_flags (s : State) (c r : Byte) : (s.withCrc c r).flags = s.flags := rfl
@[simp] theorem State.withCrc_udid (s : State) (c r : Byte) : (s.withCrc c r).udid = s.udid := rfl
@[simp] theorem State.withCrc_udidWritten (s : State) (c r : Byte) :
    (s.withCrc c r).udidWritten = s.udidWritten := rfl
@[simp] theorem State.withCrc_txbuf (s : State) (c r : Byte) : (s.withCrc c r).txbuf = s.txbuf := rfl
@[simp] theorem State.withCrc_rxbuf (s : State) (c r : Byte) : (s.withCrc c r).rxbuf = s.rxbuf := rfl
@[simp] theorem State.withCrc_freeDraws (s : State) (c r : Byte) : (s.withCrc c r).freeDraws = s.freeDraws := rfl

/-- Two states that differ in the CRC fields only. -/
def SameOffCrc (s s' : State) : Prop := s' = s.withCrc s'.computedCrc s'.receivedCrc

/-- Where the first outcome is a next state, the second is that state but for the CRC fields. -/
def AgreeOffCrc (o o' : Out) : Prop := ∀ t, o = .next t → ∃ c r : Byte, o' = .next (t.withCrc c r)

/-! ## One rule per way a meaning is built -/

theorem SameOffCrc.emit {s s' : State} (h : SameOffCrc s s') (a : Action) : SameOffCrc (s.emit a) (s'.emit a) := by
  rw [h]; rfl

theorem sameOffCrc_ite {c : Prop} [Decidable c] {a b a' b' : State} (ha : SameOffCrc a a') (hb : SameOffCrc b b') :
    SameOffCrc (if c then a else b) (if c then a' else b') := by
  split
  · exact ha
  · exact hb

theorem agree_finish {s s' : State} {st : Status} {d : Byte} (h : SameOffCrc s s') :
    AgreeOffCrc (finish s st d) (finish s' st d) := by
  rintro _ ⟨rfl⟩
  exact ⟨s'.computedCrc, s'.receivedCrc, by rw [h]; rfl⟩

theorem agree_fault (f : Fault) (o' : Out) : AgreeOffCrc (.fault f) o' := fun _ h => by cases h

theorem agree_ite {c : Prop} [Decidable c] {a b a' b' : Out} (ha : c → AgreeOffCrc a a') (hb : ¬c → AgreeOffCrc b b') :
    AgreeOffCrc (if c then a else b) (if c then a' else b') := by
  split
  · exact ha ‹_›
  · exact hb ‹_›

/-- A branch on PEC, where PEC is off: only the other branch can run. -/
theorem agree_pecOff {p : Bool} {a b a' b' : Out} (hp : p = false) (hb : AgreeOffCrc b b') :
    AgreeOffCrc (if p then a else b) (if p then a' else b') := by
  simpa [hp] using hb

theorem agree_whenInited {s s' : State} {o o' : Out} (hs : SameOffCrc s s')
    (h : AgreeOffCrc o o') : AgreeOffCrc (whenInited s o) (whenInited s' o') := by
  rw [hs]
  refine agree_ite (fun _ => h) fun _ => ?_
  rintro _ ⟨rfl⟩
  exact ⟨s'.computedCrc, s'.receivedCrc, rfl⟩

theorem agree_withTxByte {s s' : State} {i : Nat} {k k' : Byte → Out} (hs : s'.txbuf = s.txbuf)
    (h : ∀ b, AgreeOffCrc (k b) (k' b)) : AgreeOffCrc (withTxByte s i k) (withTxByte s' i k') := by
  intro t ht
  obtain ⟨b, hb, hk⟩ := withTxByte_next ht
  rw [withTxByte_of_some (hs ▸ hb)]
  exact h b t hk

theorem agree_startChecked {s s' : State} {ok : Bool} {o o' : Out}
    (hs : SameOffCrc s s') (h : AgreeOffCrc o o') :
    AgreeOffCrc (startChecked s ok o) (startChecked s' ok o') := by
  rw [hs]
  exact agree_ite (fun _ => agree_finish rfl) fun _ => agree_ite (fun _ => h) fun _ => agree_finish rfl

/-- The start procedure zeroes both fields before it folds (R113, R173). -/
theorem agree_arm (s : State) (c r : Byte) (row : StartRow) : AgreeOffCrc (arm s row) (arm (s.withCrc c r) row) := by
  rw [arm_eq, arm_eq]
  rintro _ ⟨rfl⟩
  exact ⟨_, _, rfl⟩

section
variable (s : State) (c r : Byte)

/-! ## The starts and the helpers -/

theorem agree_start {ok : Bool} (row : StartRow) :
    AgreeOffCrc (startChecked s ok (arm s row)) (startChecked (s.withCrc c r) ok (arm (s.withCrc c r) row)) :=
  agree_startChecked rfl (agree_arm s c r row)

theorem agree_rawStart {ok : Bool} (row : Byte → StartRow) :
    AgreeOffCrc (startChecked s ok (withTxByte s 0 fun b => arm s (row b)))
      (startChecked (s.withCrc c r) ok (withTxByte (s.withCrc c r) 0 fun b => arm (s.withCrc c r) (row b))) :=
  agree_startChecked rfl (agree_withTxByte rfl fun b => agree_arm s c r (row b))

theorem agree_udidPacket (x : Byte) {k : State → Out} (h : ∀ s : State, AgreeOffCrc (k s) (k (s.withCrc c r))) :
    AgreeOffCrc (withUdidPacket s x k) (withUdidPacket (s.withCrc c r) x k) := by
  simp only [withUdidPacket, State.withCrc_txbuf, State.withCrc_udid, State.withCrc_udidWritten]
  generalize s.txbuf.writeBytes 0 (udidEncode s.udid x) = m
  exact agree_ite (fun _ => h { s with txbuf := m }) fun _ => agree_fault _ _

theorem agree_of_startsMaster {i : Instr} (hi : startsMaster i = true) :
    AgreeOffCrc (exec i s) (exec i (s.withCrc c r)) := by
  cases i <;> simp only [startsMaster, Bool.false_eq_true] at hi <;> refine agree_whenInited rfl ?_
  case mi2cwr | mi2cwrrd => exact agree_rawStart s c r _
  case arpassign x =>
    exact agree_ite (fun _ => agree_finish rfl) fun _ => agree_udidPacket s c r x fun u => agree_start u c r _
  case arpnotify => exact agree_ite (fun _ => agree_finish rfl) fun _ => agree_start _ c r _
  all_goals exact agree_start s c r _

/-! ## The master engine -/

theorem agree_masterWriteNext : AgreeOffCrc (masterWriteNext s) (masterWriteNext (s.withCrc c r)) := by
  refine agree_ite (fun _ => agree_finish rfl) fun _ => agree_withTxByte rfl fun _ => agree_finish (.emit ?_ _)
  exact sameOffCrc_ite rfl rfl

theorem agree_masterWriteEnd {s s' : State} (h : SameOffCrc s s') :
    AgreeOffCrc (masterWriteEnd s) (masterWriteEnd s') := by
  rw [h]
  exact agree_ite (fun _ => agree_finish rfl) fun _ => agree_finish rfl

/-- The PEC byte is `computed_crc`, and goes out with PEC on only (R221). -/
theorem agree_masterWriteFinal (hpec : s.flags.pec = false) :
    AgreeOffCrc (masterWriteFinal s) (masterWriteFinal (s.withCrc c r)) :=
  agree_pecOff (by simp [hpec]) <| agree_ite (fun _ => agree_finish rfl) fun _ => agree_withTxByte rfl fun _ =>
    agree_masterWriteEnd rfl

theorem sameOffCrc_selectRead {s s' : State} (h : SameOffCrc s s') (first : Bool) (n : Nat) :
    SameOffCrc (selectRead first n s) (selectRead first n s') := by
  rw [h]
  exact sameOffCrc_ite rfl (sameOffCrc_ite rfl rfl)

theorem agree_masterReadFirst : AgreeOffCrc (masterReadFirst s) (masterReadFirst (s.withCrc c r)) := by
  refine agree_ite (fun _ => agree_finish rfl) fun _ => agree_finish (sameOffCrc_selectRead ?_ true _)
  rfl

theorem agree_masterReadBlockSize : AgreeOffCrc (masterReadBlockSize s) (masterReadBlockSize (s.withCrc c r)) := by
  refine agree_ite (fun _ => agree_finish (sameOffCrc_selectRead ?_ false _)) fun _ => agree_finish rfl
  rfl

theorem agree_masterReadNext : AgreeOffCrc (masterReadNext s) (masterReadNext (s.withCrc c r)) := by
  refine agree_ite (fun _ => agree_finish rfl) fun _ => agree_finish (.emit ?_ _)
  exact sameOffCrc_ite rfl rfl

theorem agree_masterReadFinal : AgreeOffCrc (masterReadFinal s) (masterReadFinal (s.withCrc c r)) :=
  agree_ite (fun _ => agree_finish rfl) fun _ => agree_finish rfl

/-- The last byte is compared with `computed_crc` with PEC on only (R229). -/
theorem agree_masterReadWait (hpec : s.flags.pec = false) :
    AgreeOffCrc (masterReadWait s) (masterReadWait (s.withCrc c r)) :=
  agree_pecOff hpec <| agree_ite (fun _ => agree_finish rfl) fun _ => agree_finish rfl

theorem agree_masterDispatch (hpec : s.flags.pec = false) :
    AgreeOffCrc (masterDispatch s) (masterDispatch (s.withCrc c r)) := by
  unfold masterDispatch
  cases hcur : s.masterCursor <;> simp only [State.withCrc_masterCursor, hcur]
  case writeNext => exact agree_masterWriteNext s c r
  case writeFinal => exact agree_masterWriteFinal s c r hpec
  case readOne | readFirst => exact agree_masterReadFirst s c r
  case readBlockSize => exact agree_masterReadBlockSize s c r
  case readNext => exact agree_masterReadNext s c r
  case readFinal => exact agree_masterReadFinal s c r
  case readWait => exact agree_masterReadWait s c r hpec
  all_goals exact agree_finish rfl

theorem agree_masterInterrupt (hpec : s.flags.pec = false) :
    AgreeOffCrc (masterInterrupt s) (masterInterrupt (s.withCrc c r)) :=
  agree_ite (fun _ => agree_finish rfl) fun _ => agree_ite (fun _ => agree_finish rfl) fun _ =>
    agree_ite (fun _ => agree_finish (sameOffCrc_ite rfl rfl)) fun _ =>
      agree_masterDispatch (s.emit .mIclrData) c r hpec

/-! ## The slave engine -/

theorem agree_storePayload (b : Byte) : AgreeOffCrc (storePayload s b) (storePayload (s.withCrc c r) b) :=
  agree_ite (fun _ => agree_finish rfl) fun _ => agree_finish rfl

theorem agree_slavePecOff : AgreeOffCrc (slavePecOff s) (slavePecOff (s.withCrc c r)) := by
  unfold slavePecOff
  cases hend : Config.pecOffEnd s.freeDraws <;> simp only [State.withCrc_freeDraws, hend] <;> exact agree_finish rfl

/-- The byte in `ReadPEC` is stored and compared with PEC on only (R267; log entry 21). -/
theorem agree_slaveReadPec (hpec : s.flags.pec = false) (b : Byte) :
    AgreeOffCrc (slaveReadPec s b) (slaveReadPec (s.withCrc c r) b) :=
  agree_pecOff hpec (agree_slavePecOff s c r)

theorem agree_slaveReceive (hpec : s.flags.pec = false) :
    AgreeOffCrc (slaveReceive s) (slaveReceive (s.withCrc c r)) := by
  unfold slaveReceive
  cases hcur : s.slaveCursor <;> simp only [State.withCrc_slaveCursor, State.withCrc_flags, hcur]
  case slavePostCommand =>
    exact agree_ite (fun _ => agree_ite (fun _ => agree_finish rfl) fun _ => agree_finish rfl) fun _ =>
      agree_storePayload (s.emit .sGet) c r _
  case readNext => exact agree_storePayload (s.emit .sGet) c r _
  case readPec => exact agree_slaveReadPec (s.emit .sGet) c r hpec _
  all_goals exact agree_finish rfl

theorem agree_slaveFirstByte : AgreeOffCrc (slaveFirstByte s) (slaveFirstByte (s.withCrc c r)) :=
  agree_ite (fun _ => agree_ite (fun _ => agree_fault _ _) fun _ => agree_finish rfl) fun _ => agree_finish rfl

theorem agree_slaveFirstTx : AgreeOffCrc (slaveFirstTx s) (slaveFirstTx (s.withCrc c r)) :=
  agree_ite (fun _ => agree_finish rfl) fun _ =>
    agree_ite (fun _ => agree_withTxByte rfl fun _ => agree_finish rfl) fun _ => agree_finish rfl

/-- The byte after the payload is `computed_crc` with PEC on only (R273). -/
theorem agree_slaveNextTx (hpec : s.flags.pec = false) :
    AgreeOffCrc (slaveNextTx s) (slaveNextTx (s.withCrc c r)) :=
  agree_ite (fun _ => agree_withTxByte rfl fun _ => agree_finish rfl) fun _ =>
    agree_pecOff hpec (agree_finish rfl)

theorem agree_slaveTx (hpec : s.flags.pec = false) : AgreeOffCrc (slaveTx s) (slaveTx (s.withCrc c r)) := by
  refine agree_ite (fun _ => agree_finish rfl) fun _ => ?_
  cases hcur : s.slaveCursor <;> simp only [State.withCrc_slaveCursor, hcur]
  case idle | slavePostCommand | readNext | readDone => exact agree_slaveFirstTx s c r
  case writeNext | writeFinal => exact agree_slaveNextTx s c r hpec
  all_goals exact agree_finish rfl

theorem agree_slaveTransmit (hpec : s.flags.pec = false) :
    AgreeOffCrc (slaveTransmit s) (slaveTransmit (s.withCrc c r)) := by
  unfold slaveTransmit
  cases hbegins : beginsDirection s.slaveCursor <;> simp only [State.withCrc_slaveCursor, hbegins]
  case false => exact agree_slaveTx s c r hpec
  case true => exact agree_slaveTx s.captureOwn c r hpec

theorem agree_slaveStop : AgreeOffCrc (slaveStop s) (slaveStop (s.withCrc c r)) :=
  agree_ite (fun _ => agree_ite (fun _ => agree_finish rfl) fun _ => agree_finish rfl) fun _ => agree_finish rfl

theorem agree_slaveData (hpec : s.flags.pec = false) : AgreeOffCrc (slaveData s) (slaveData (s.withCrc c r)) :=
  agree_ite (fun _ => agree_slaveFirstByte s c r) fun _ => agree_ite (fun _ => agree_slaveReceive s c r hpec) fun _ =>
    agree_ite (fun _ => agree_slaveTransmit s c r hpec) fun _ => agree_finish rfl

theorem agree_slaveInterrupt (hpec : s.flags.pec = false) :
    AgreeOffCrc (slaveInterrupt s) (slaveInterrupt (s.withCrc c r)) := by
  rw [slaveInterrupt_eq, slaveInterrupt_eq]
  exact agree_ite (fun _ => agree_slaveStop _ c r) fun _ =>
    agree_ite (fun _ => agree_slaveData { s with trace := _ } c r hpec) fun _ => agree_finish rfl

/-! ## Every command -/

theorem agree_udiddec : AgreeOffCrc (exec .udiddec s) (exec .udiddec (s.withCrc c r)) := by
  refine agree_whenInited rfl ?_
  cases hread : s.rxbuf.readBytes 0 udidWireLen <;> simp only [State.withCrc_rxbuf, hread]
  case ok => exact agree_finish rfl
  case error => exact agree_fault _ _

theorem agree_saddrset (a : BusAddr) (slot : Bool) :
    AgreeOffCrc (exec (.saddrset a slot) s) (exec (.saddrset a slot) (s.withCrc c r)) := by
  refine agree_whenInited rfl ?_
  cases slot <;> exact agree_finish rfl

/-- With PEC off no command reads a CRC field (R25). -/
theorem exec_agrees (i : Instr) (hpec : s.flags.pec = false) : AgreeOffCrc (exec i s) (exec i (s.withCrc c r)) := by
  cases hstart : startsMaster i
  case true => exact agree_of_startsMaster s c r hstart
  cases i <;> simp only [startsMaster, Bool.true_eq_false] at hstart
  case minit | sinit => exact agree_finish rfl
  case mintp => exact agree_whenInited rfl (agree_masterInterrupt s c r hpec)
  case sintp => exact agree_whenInited rfl (agree_slaveInterrupt s c r hpec)
  case sdsend => exact agree_whenInited rfl (agree_slaveTx s c r hpec)
  case udidenc => exact agree_whenInited rfl (agree_udidPacket s c r _ fun _ => agree_finish rfl)
  case udiddec => exact agree_udiddec s c r
  case saddrset a slot => exact agree_saddrset s c r a slot
  all_goals exact agree_whenInited rfl (agree_finish rfl)

end

/-! ## The writes of the CRC fields -/

theorem PlainEffect.crc_cases {i : Instr} {s t : State} (h : PlainEffect i s t) :
    (t.computedCrc = s.computedCrc ∧ t.receivedCrc = s.receivedCrc) ∨
      (t.computedCrc = 0#8 ∧ t.receivedCrc = 0#8 ∧ (i = .sxferinit ∨ i = .minit ∨ i = .sinit)) := by
  cases h with
  | transferInit => exact .inr ⟨rfl, rfl, .inl rfl⟩
  | masterInit => exact .inr ⟨rfl, rfl, .inr (.inl rfl)⟩
  | slaveInit => exact .inr ⟨rfl, rfl, .inr (.inr rfl)⟩
  | _ => exact .inl ⟨rfl, rfl⟩

/-- With PEC off a command leaves both CRC fields, or zeroes both and is one of the resets of R113. -/
theorem crc_changed_by {i : Instr} {s t : State} (hpec : s.flags.pec = false) (h : exec i s = .next t) :
    (t.computedCrc = s.computedCrc ∧ t.receivedCrc = s.receivedCrc) ∨
      (t.computedCrc = 0#8 ∧ t.receivedCrc = 0#8 ∧
        (startsMaster i = true ∨ i = .sxferinit ∨ i = .minit ∨ i = .sinit)) := by
  cases exec_effect i s t h with
  | start hi h => exact (h.crc hpec).imp_right fun ⟨hc, hr⟩ => ⟨hc, hr, .inl hi⟩
  | master _ h => exact .inl (h.crc hpec)
  | slave _ h => exact .inl (h.crc hpec)
  | send _ h _ => exact .inl (h.crc hpec)
  | plain h => exact h.crc_cases.imp_right fun ⟨hc, hr, hi⟩ => ⟨hc, hr, .inr hi⟩

/-- Settles O24: the effects give the writes, and running the command beside itself from other CRC values the reads. -/
theorem pecOffLeavesTheCrcFields : Obligations.PecOffLeavesTheCrcFields :=
  fun i s t hpec h => ⟨crc_changed_by hpec h, fun c r => exec_agrees s c r i hpec t h⟩

end Sys2Proof.Machine
end

section
/-! The command port (O5), the packed registers (O11), the refused accesses (O14), the buffer windows (O15) and the
wire byte of an address (O29). -/

namespace Sys2Proof.Machine

/-! ## The command port (R75, R80) -/

/-- Settles O5: the write reaches the command port, which runs the decoded command. -/
theorem stepRunsTheDecodedCommand : Obligations.StepRunsTheDecodedCommand := by
  intro s w i inp rest hs hdecode
  rw [step_of_schedule hs, hostStep, busAccess_of_register exec (by decide) (by decide)]
  simp only [regAccess, commandPort, hdecode, if_true]

/-! ## Refused accesses (R67, R70) -/

/-- Below 0x100 only aligned 32-bit accesses are served, in the buffer windows only byte accesses (R67). -/
theorem busAccess_of_unserved (run : Instr → State → Out) {width : Width} {offset : Nat} (op : BusOp) (inp : Inputs)
    (s : State) (h : (offset < 0x100 ∧ (width ≠ .word ∨ offset % 4 ≠ 0)) ∨
      (0x100 ≤ offset ∧ offset < 0x300 ∧ width ≠ .byte)) :
    busAccess run width offset op inp s = refusedAccess s := by
  rcases h with ⟨hlow, hbad⟩ | ⟨hge, hlt, hwidth⟩
  · rw [busAccess, if_pos hlow, if_neg (by tauto)]
  · rw [busAccess, if_neg (by omega), if_pos hlt, if_neg hwidth]

/-- Settles O14. -/
theorem otherAccessesAreRefused : Obligations.OtherAccessesAreRefused := by
  intro s rest inp width offset op hs h
  rw [step_of_schedule hs, hostStep, busAccess_of_unserved exec op inp _ h]
  rfl

/-! ## The buffer windows (R60, R63, R69) -/

/-- A scheduled byte access at 0x100 to 0x1FF is one of the TXBUF window. -/
theorem step_of_txWindow {s : State} {i : Nat} {op : BusOp} {inp : Inputs} {rest : List HostStep} (hi : i < 256)
    (hs : s.schedule = .access .byte (0x100 + i) op inp :: rest) :
    step s = txWindow i op { s with schedule := rest } := by
  rw [step_of_schedule hs, hostStep, busAccess, if_neg (by omega), if_pos (by omega), if_pos rfl, if_pos (by omega),
    Nat.add_sub_cancel_left]

/-- A scheduled byte access at 0x200 to 0x2FF is one of the RXBUF window. -/
theorem step_of_rxWindow {s : State} {i : Nat} {op : BusOp} {inp : Inputs} {rest : List HostStep} (hi : i < 256)
    (hs : s.schedule = .access .byte (0x200 + i) op inp :: rest) :
    step s = rxWindow i op { s with schedule := rest } := by
  rw [step_of_schedule hs, hostStep, busAccess, if_neg (by omega), if_pos (by omega), if_pos rfl, if_neg (by omega),
    Nat.add_sub_cancel_left]

/-- A byte something has written is answered to the host (R63). -/
theorem rxWindow_read_of_some {s : State} {i : Nat} {b : Byte} (h : s.rxbuf.read i = some b) :
    rxWindow i .read s = answeredWith s (b.setWidth 32) := by
  simp only [rxWindow, h]

/-- A byte nothing has written stops the run (R69; log entry 2). -/
theorem rxWindow_read_of_none {s : State} {i : Nat} (h : s.rxbuf.read i = none) :
    rxWindow i .read s = .fault (.unwrittenRxByte i) := by
  simp only [rxWindow, h]

/-- Settles O15: each clause is one access of `txWindow` or `rxWindow`. -/
theorem bufferWindows : Obligations.BufferWindows := by
  intro s rest inp i hi
  refine ⟨fun v hs => ⟨s.txbuf.write i (v.setWidth 8), step_of_txWindow hi hs, fun a => Memory.read_write _ _ _ _⟩,
    fun b hs hread => ?_, fun hs hread => ?_, fun v hs => step_of_rxWindow hi hs, fun b hs hread => ?_,
    fun hs hread => ?_⟩
  · exact (step_of_txWindow hi hs).trans (withTxByte_of_some (s := { s with schedule := rest }) hread _)
  · exact (step_of_txWindow hi hs).trans (withTxByte_of_none (s := { s with schedule := rest }) hread _)
  · exact (step_of_rxWindow hi hs).trans (rxWindow_read_of_some (s := { s with schedule := rest }) hread)
  · exact (step_of_rxWindow hi hs).trans (rxWindow_read_of_none (s := { s with schedule := rest }) hread)

/-! ## Fields side by side in a word -/

/-- A field above another one: the lower field stays below bit `k` and the shifted one inside the word, so the word's
number is the sum. -/
theorem toNat_shiftLeft_or {w k : Nat} {high low : BitVec w} (hlow : low.toNat < 2 ^ k)
    (hhigh : 2 ^ k * high.toNat < 2 ^ w) : (high <<< k ||| low).toNat = low.toNat + 2 ^ k * high.toNat := by
  rw [BitVec.toNat_or, BitVec.toNat_shiftLeft, Nat.shiftLeft_eq, Nat.mul_comm high.toNat, Nat.mod_eq_of_lt hhigh,
    ← Nat.two_pow_add_eq_or_of_lt hlow, Nat.add_comm]

theorem dirBit_toNat (d : Bool) : (dirBit d).toNat = d.toNat := by
  cases d <;> rfl

/-- Settles O29: the direction bit is the field below bit 1, the address the one from bit 1 on. -/
theorem addressByteLayout : Obligations.AddressByteLayout := by
  intro a d
  have haddr : (a.setWidth 8).toNat = a.toNat := BitVec.toNat_setWidth_of_le (by decide)
  have hdir := dirBit_toNat d
  have hd := d.toNat_lt
  rw [addrByte, toNat_shiftLeft_or (by omega) (by omega)]
  omega

/-! ## The packed registers (R31, R63, R94) -/

/-- The table of R94: every status with its number. -/
def statusTable : List (Status × Nat) :=
  [(.ok, 0), (.timeout, 1), (.peripheralBusy, 2), (.busBusy, 3), (.arbitrationLost, 4), (.addressAckError, 5),
    (.dataAckError, 6), (.pecError, 7), (.dataSizeError, 8), (.masterError, 9), (.slaveError, 10),
    (.quickCommandZero, 11), (.quickCommandOne, 12), (.firstByte, 13), (.primaryAddressMatched, 14),
    (.secondaryAddressMatched, 15), (.transferInProgress, 16), (.transferComplete, 17), (.slaveNotReady, 18)]

/-- The number the table has for a status is its 5-bit code, and there is no other. -/
theorem mem_statusTable_iff (st : Status) (k : Nat) : (st, k) ∈ statusTable ↔ k = st.code.toNat := by
  cases st <;> simp [statusTable, Status.code]

/-- `RESULT`: status from bit 0, data from bit 8, err at bit 31 (R63). -/
theorem result_word_toNat (r : Result) :
    r.word.toNat = r.status.code.toNat + 2 ^ 8 * r.data.toNat + 2 ^ 31 * r.err.toNat := by
  have hstatus : (r.status.code.setWidth 32).toNat = r.status.code.toNat := BitVec.toNat_setWidth_of_le (by decide)
  have hdata : (r.data.setWidth 32).toNat = r.data.toNat := BitVec.toNat_setWidth_of_le (by decide)
  have herr : (if r.err then 0x80000000#32 else 0#32) = (BitVec.ofBool r.err).setWidth 32 <<< 31 := by
    cases r.err <;> rfl
  have herrBit : ((BitVec.ofBool r.err).setWidth 32).toNat = r.err.toNat := by
    cases r.err <;> rfl
  have hlow := toNat_shiftLeft_or (k := 8) (high := r.data.setWidth 32) (low := r.status.code.setWidth 32)
    (by omega) (by omega)
  have he := r.err.toNat_lt
  rw [Result.word, herr, BitVec.or_assoc, toNat_shiftLeft_or (by omega) (by omega)]
  omega

/-- A flag placed above the bits of a word. -/
theorem toNat_or_flagBit {x : BitVec 16} {n pos : Nat} (b : Bool) (hx : x.toNat = n) (hn : n < 2 ^ pos)
    (hpos : pos < 16) : (x ||| flagBit b pos).toNat = n + 2 ^ pos * b.toNat := by
  subst hx
  cases b with
  | false => simp [flagBit]
  | true =>
    have hfits : 2 ^ pos * (1#16).toNat < 2 ^ 16 := by simpa using Nat.pow_lt_pow_right (by decide) hpos
    rw [flagBit, if_pos rfl, BitVec.or_comm, toNat_shiftLeft_or hn hfits]
    rfl

/-- `FLAGS`: each flag at its bit of R31. -/
theorem flags_word_toNat (f : Flags) :
    f.word.toNat = f.pec.toNat + 2 * f.pc.toNat + 4 * f.blk.toNat + 8 * f.tip.toNat + 16 * f.raw.toNat +
      32 * f.ar.toNat + 64 * f.av.toNat + 128 * f.arp.toNat := by
  have hpec := f.pec.toNat_lt
  have hpc := f.pc.toNat_lt
  have hblk := f.blk.toNat_lt
  have htip := f.tip.toNat_lt
  have hraw := f.raw.toNat_lt
  have har := f.ar.toNat_lt
  have hav := f.av.toNat_lt
  have h0 : (flagBit f.pec 0).toNat = f.pec.toNat := by cases f.pec <;> rfl
  have h1 := toNat_or_flagBit (pos := 1) f.pc h0 (by omega) (by decide)
  have h2 := toNat_or_flagBit (pos := 2) f.blk h1 (by omega) (by decide)
  have h3 := toNat_or_flagBit (pos := 3) f.tip h2 (by omega) (by decide)
  have h4 := toNat_or_flagBit (pos := 4) f.raw h3 (by omega) (by decide)
  have h5 := toNat_or_flagBit (pos := 5) f.ar h4 (by omega) (by decide)
  have h6 := toNat_or_flagBit (pos := 6) f.av h5 (by omega) (by decide)
  have h7 := toNat_or_flagBit (pos := 7) f.arp h6 (by omega) (by decide)
  exact h7

/-- `SADDR`: `saddr0` from bit 0, `saddr1` from bit 8 (R63). -/
theorem saddrWord_toNat (s : State) : (saddrWord s).toNat = s.saddr0.toNat + 2 ^ 8 * s.saddr1.toNat := by
  have h0 : (s.saddr0.setWidth 32).toNat = s.saddr0.toNat := BitVec.toNat_setWidth_of_le (by decide)
  have h1 : (s.saddr1.setWidth 32).toNat = s.saddr1.toNat := BitVec.toNat_setWidth_of_le (by decide)
  rw [saddrWord, toNat_shiftLeft_or (by omega) (by omega), h0, h1]

/-- `CTRL`: `inited` at bit 0, `udid_bound` at bit 1 (R63). -/
theorem ctrlWord_toNat (s : State) : (ctrlWord s).toNat = s.inited.toNat + 2 * s.udidBound.toNat := by
  unfold ctrlWord
  cases s.inited <;> cases s.udidBound <;> rfl

/-- Settles O11: a register read is `readReg` of the offset, whose word is its fields side by side. -/
theorem packedRegistersRead : Obligations.PackedRegistersRead := by
  rintro _ s rest inp rfl
  refine ⟨fun st => ⟨_, (mem_statusTable_iff st _).2 rfl⟩, fun status hstatus hs => ?_, fun hs => ?_, fun hs => ?_,
    fun hs => ?_⟩
  · obtain rfl := (mem_statusTable_iff _ _).1 hstatus
    exact ⟨_, step_of_register_read hs (by decide) (by decide), result_word_toNat s.result⟩
  · refine ⟨_, step_of_register_read hs (by decide) (by decide), ?_⟩
    exact (BitVec.toNat_setWidth_of_le (by decide)).trans (flags_word_toNat s.flags)
  · exact ⟨_, step_of_register_read hs (by decide) (by decide), saddrWord_toNat s⟩
  · exact ⟨_, step_of_register_read hs (by decide) (by decide), ctrlWord_toNat s⟩

end Sys2Proof.Machine
end

section
/-! What every command leaves of the host's side and of the trace (O25). -/

namespace Sys2Proof.Machine

/-! ## The host's side and the ARP parameters (log entries 5, 6, 9 and 16) -/

/-- The fields the world outside the block sets: schedule, inputs, reply and ARP parameters. -/
def State.hostSide (s : State) : List HostStep × Inputs × BusReply × ArpParams :=
  (s.schedule, s.inputs, s.reply, s.arpParams)

theorem StartEffect.hostSide_eq {i : Instr} {s t : State} (h : StartEffect i s t) : t.hostSide = s.hostSide := by
  rw [h.frame]; rfl

theorem MasterEffect.hostSide_eq {s t : State} (h : MasterEffect s t) : t.hostSide = s.hostSide := by
  rw [h.frame]; rfl

theorem SlaveEffect.hostSide_eq {n : Nat} {s t : State} (h : SlaveEffect n s t) : t.hostSide = s.hostSide := by
  rw [h.frame]; rfl

theorem PlainEffect.hostSide_eq {i : Instr} {s t : State} (h : PlainEffect i s t) : t.hostSide = s.hostSide := by
  cases h <;> rfl

/-- A command writes nothing of the host's side. -/
theorem exec_hostSide_eq {i : Instr} {s t : State} (h : exec i s = .next t) : t.hostSide = s.hostSide := by
  cases exec_effect i s t h with
  | start _ h => exact h.hostSide_eq
  | master _ h => exact h.hostSide_eq
  | slave _ h => exact h.hostSide_eq
  | send _ h _ => exact h.hostSide_eq
  | plain h => exact h.hostSide_eq

/-- No step changes the ARP parameters; a hardware reset keeps them by the model's choice (log entry 13). -/
theorem step_keeps_arpParams {s t : State} (h : step s = .next t) : t.arpParams = s.arpParams := by
  cases step_effect s t h with
  | wait _ ht | reset _ _ ht | window _ _ _ _ _ _ ht | illegal _ _ ht => rw [ht]
  | command _ _ _ hrun => exact congrArg (fun side => side.2.2.2) (exec_hostSide_eq hrun)

/-! ## The trace (R71, R98) -/

/-- The trace so far stands at the head of the new one, with at most `n` actions after it. -/
def AppendsAtMost (n : Nat) (s t : State) : Prop :=
  ∃ actions : List Action, t.trace = s.trace ++ actions ∧ actions.length ≤ n

theorem AppendsAtMost.mono {m n : Nat} {s t : State} (h : AppendsAtMost m s t) (hmn : m ≤ n) : AppendsAtMost n s t :=
  h.imp fun _ ⟨htrace, hlen⟩ => ⟨htrace, hlen.trans hmn⟩

theorem appendsAtMost_of_eq {s t : State} (n : Nat) (h : t.trace = s.trace) : AppendsAtMost n s t :=
  ⟨[], by simp [h], by simp⟩

theorem PlainEffect.appends {i : Instr} {s t : State} (h : PlainEffect i s t) : AppendsAtMost 1 s t := by
  cases h with
  | emits a => exact ⟨[a], rfl, Nat.le_refl 1⟩
  | slaveInit => exact ⟨[.sEnable], rfl, Nat.le_refl 1⟩
  | ownAddress a slot => exact ⟨[.sAddr slot a], rfl, Nat.le_refl 1⟩
  | _ => exact appendsAtMost_of_eq 1 rfl

/-- A command appends at most three actions: a start with a first byte, or an interrupt with its clears, emits three. -/
theorem exec_appends {i : Instr} {s t : State} (h : exec i s = .next t) : AppendsAtMost 3 s t := by
  cases exec_effect i s t h with
  | start _ h => exact h.trace
  | master _ h => exact h.trace
  | slave _ h => exact h.trace
  | send _ h _ => exact AppendsAtMost.mono h.trace (by decide)
  | plain h => exact h.appends.mono (by decide)

/-- Settles O25, by the effects of a command and of a step. -/
theorem commandsOnlyAppendActions : Obligations.CommandsOnlyAppendActions := by
  refine ⟨fun i s t h => ⟨exec_appends h, ?_⟩, fun s t => step_keeps_arpParams⟩
  have hside := exec_hostSide_eq h
  simp only [State.hostSide, Prod.mk.injEq] at hside
  obtain ⟨hschedule, hinputs, hreply, -⟩ := hside
  exact ⟨hschedule, hinputs, hreply⟩

end Sys2Proof.Machine
end

section
/-! Where a command can stop (O27). -/

namespace Sys2Proof.Machine

/-- The data a command can miss, with the fault that names it (R69, R262, R304). -/
inductive CommandGap : Instr → State → Fault → Prop
  | payload {i : Instr} {s : State} {f : Fault} (hi : i = .mintp ∨ i = .sintp ∨ i = .sdsend) (h : TxGap s f) :
      CommandGap i s f
  | firstByte {i : Instr} {s : State} (hi : (∃ a n, i = .mi2cwr a n) ∨ ∃ a m n, i = .mi2cwrrd a m n)
      (h : s.txbuf.read 0 = none) : CommandGap i s (.unwrittenTxByte 0)
  | packetByte {s : State} {k : Nat} (hk : k < 17) (h : s.rxbuf.read k = none) :
      CommandGap .udiddec s (.unwrittenRxByte k)
  | udid {i : Instr} {s : State} (hi : (∃ x, i = .udidenc x) ∨ ∃ x, i = .arpassign x)
      (h : s.udidWritten.all = false) : CommandGap i s .unwrittenUdid
  | rawRoom {s : State} {f : Fault} (h : RawGap s f) : CommandGap .sintp s f

/-- A raw write stops only on `TXBUF[0]`, which it reads after both checks (R194, R196). -/
theorem rawStart_halts {i : Instr} (hi : (∃ a n, i = .mi2cwr a n) ∨ ∃ a m n, i = .mi2cwrrd a m n) (s : State)
    (ok : Bool) (row : Byte → StartRow) :
    Halts (CommandGap i s) (whenInited s (startChecked s ok (withTxByte s 0 fun b => arm s (row b)))) :=
  halts_whenInited (halts_startChecked (halts_withTxByte (.firstByte hi) fun _ _ => halts_arm s _))

/-- A start that reads no buffer byte does not stop. -/
theorem start_halts {P : Fault → Prop} (s : State) (ok : Bool) (row : StartRow) :
    Halts P (whenInited s (startChecked s ok (arm s row))) :=
  halts_whenInited (halts_startChecked (halts_arm s row))

theorem udidenc_halts (x : Byte) (s : State) : Halts (CommandGap (.udidenc x) s) (exec (.udidenc x) s) :=
  halts_whenInited (halts_withUdidPacket (.udid (.inl ⟨x, rfl⟩)) (halts_finish _ _ _))

theorem udiddec_halts (s : State) : Halts (CommandGap .udiddec s) (exec .udiddec s) := by
  refine halts_whenInited ?_
  split
  · exact halts_finish _ _ _
  · next k hmissing =>
    obtain ⟨-, hk, hnone⟩ := Memory.readBytes_error hmissing
    exact halts_fault (.packetByte (by simpa [udidWireLen] using hk) hnone)

theorem arpassign_halts (x : Byte) (s : State) : Halts (CommandGap (.arpassign x) s) (exec (.arpassign x) s) :=
  halts_whenInited (halts_ite (fun _ => halts_finish _ _ _) fun _ =>
    halts_withUdidPacket (.udid (.inr ⟨x, rfl⟩)) (halts_startChecked (halts_arm _ _)))

theorem arpnotify_halts {P : Fault → Prop} (c : Byte) (s : State) : Halts P (exec (.arpnotify c) s) :=
  halts_whenInited (halts_ite (fun _ => halts_finish _ _ _) fun _ => halts_startChecked (halts_arm _ _))

theorem sintp_halts (s : State) : Halts (CommandGap .sintp s) (exec .sintp s) := by
  refine halts_whenInited ((slaveInterrupt_halts s).weaken fun f h => ?_)
  rcases h with hgap | hroom
  · exact .payload (.inr (.inl rfl)) hgap
  · exact .rawRoom hroom

/-- No command is refused, and one that stops misses data. -/
theorem exec_halts (i : Instr) (s : State) : Halts (CommandGap i s) (exec i s) := by
  cases i
  case minit | sinit => exact halts_finish _ _ _
  case mintp => exact halts_whenInited ((masterInterrupt_halts s).weaken fun _ => .payload (.inl rfl))
  case sintp => exact sintp_halts s
  case sdsend => exact halts_whenInited ((slaveTx_halts s).weaken fun _ => .payload (.inr (.inr rfl)))
  case mi2cwr a n => exact rawStart_halts (.inl ⟨a, n, rfl⟩) s _ _
  case mi2cwrrd a m n => exact rawStart_halts (.inr ⟨a, m, n, rfl⟩) s _ _
  case udidenc x => exact udidenc_halts x s
  case udiddec => exact udiddec_halts s
  case arpassign x => exact arpassign_halts x s
  case arpnotify c => exact arpnotify_halts c s
  case mquick | msendb | mrecvb | mwrite | mread | mblkwr | mblkrd | mpcall | mbpcall | mnotify | mi2crd | arpgug
      | arpgud | arprstg | arprstd | arpprep => exact start_halts s _ _
  all_goals exact halts_whenInited (halts_finish _ _ _)

/-- Settles O27: the clauses are the gaps of `CommandGap`. -/
theorem commandsStopOnlyOnMissingData : Obligations.CommandsStopOnlyOnMissingData := by
  intro i s
  obtain ⟨hnotRefused, hgap⟩ := exec_halts i s
  refine ⟨hnotRefused, fun f hf => ?_⟩
  cases hgap f hf with
  | payload hi h =>
    obtain ⟨hname, hnone, hdue⟩ := h
    exact .inl ⟨hname, hnone, hdue, hi⟩
  | firstByte hi h => exact .inr (.inl ⟨rfl, h, hi⟩)
  | packetByte hk h => exact .inr (.inr (.inl ⟨_, rfl, h, hk, rfl⟩))
  | udid hi h => exact .inr (.inr (.inr (.inl ⟨rfl, h, hi⟩)))
  | rawRoom h =>
    obtain ⟨hname, hfull, hraw⟩ := h
    exact .inr (.inr (.inr (.inr ⟨hname, hfull, hraw, rfl⟩)))

end Sys2Proof.Machine
end

section
/-! The command word: the decoder and the encoder invert each other (O1, O2, O4), the words that decode are the words of
the opcode map's rows (O3), and an illegal word is CmdErr (O6). -/

namespace Sys2Proof

/-! ## What each format's reader accepts (R81, R83) -/

section
variable {a b c : Byte} {i : Instr}

theorem readF0_eq_some {j : Instr} : readF0 j a b c = some i ↔ (a = 0#8 ∧ b = 0#8 ∧ c = 0#8) ∧ j = i := by
  simp [readF0]

theorem readFT_eq_some {f : BusAddr → Instr} :
    readFT f a b c = some i ↔ (b = 0#8 ∧ c = 0#8) ∧ ∃ t, a = addrField t ∧ f t = i := by
  simp [readFT, addrOperand_eq_some]

theorem readFTB_eq_some {f : BusAddr → Byte → Instr} :
    readFTB f a b c = some i ↔ c = 0#8 ∧ ∃ t, a = addrField t ∧ f t b = i := by
  simp [readFTB, addrOperand_eq_some]

theorem readFTbit_eq_some {f : BusAddr → Bool → Instr} :
    readFTbit f a b c = some i ↔ c = 0#8 ∧ ∃ t, a = addrField t ∧ ∃ v, b = bitField v ∧ f t v = i := by
  simp only [readFTbit, Option.ite_none_right_eq_some, Option.bind_eq_some_iff, Option.map_eq_some_iff,
    addrOperand_eq_some, bitOperand_eq_some]

theorem readFTBC_eq_some {f : BusAddr → Byte → Byte → Instr} :
    readFTBC f a b c = some i ↔ ∃ t, a = addrField t ∧ f t b c = i := by
  simp [readFTBC, addrOperand_eq_some]

theorem readFTC_eq_some {f : BusAddr → Byte → Instr} :
    readFTC f a b c = some i ↔ b = 0#8 ∧ ∃ t, a = addrField t ∧ f t c = i := by
  simp [readFTC, addrOperand_eq_some]

theorem readFTNN_eq_some {f : BusAddr → Byte → Byte → Instr} :
    readFTNN f a b c = some i ↔ ∃ t, a = addrField t ∧ f t b c = i := by
  simp [readFTNN, addrOperand_eq_some]

theorem readFA_eq_some {f : Byte → Instr} : readFA f a b c = some i ↔ (b = 0#8 ∧ c = 0#8) ∧ f a = i := by
  simp [readFA]

theorem readFAbit_eq_some {f : Bool → Instr} :
    readFAbit f a b c = some i ↔ (b = 0#8 ∧ c = 0#8) ∧ ∃ v, a = bitField v ∧ f v = i := by
  simp only [readFAbit, Option.ite_none_right_eq_some, Option.map_eq_some_iff, bitOperand_eq_some]

theorem readFC_eq_some {f : Byte → Instr} : readFC f a b c = some i ↔ (a = 0#8 ∧ b = 0#8) ∧ f c = i := by
  simp [readFC]

end

/-- The bytes that hold an address are those with bit 7 clear (R81). -/
theorem exists_addrField_iff (a : Byte) : (∃ t, a = addrField t) ↔ a &&& 0x80#8 = 0#8 := by
  simp only [← addrOperand_eq_some, ← Option.isSome_iff_exists, addrOperand_isSome]

/-- The bytes that hold a one-bit operand are those with bits 7:1 clear (R81). -/
theorem exists_bitField_iff (x : Byte) : (∃ v, x = bitField v) ↔ x &&& 0xFE#8 = 0#8 := by
  simp only [← bitOperand_eq_some, ← Option.isSome_iff_exists, bitOperand_isSome]

/-! ## The decoder's rows are the rows of the opcode map (R85) -/

/-- The decoder treats the row's opcode as the row's format says: it reads the operand bytes with that format's reader,
and the encoder writes the instructions read there with the row's opcode and the format's operand bytes. -/
inductive OpcodeRow.Implemented : OpcodeRow → Prop
  | f0 {o : Byte} {m : String} {j : Instr} (hread : ∀ a b c, readRow o a b c = some (readF0 j a b c))
      (hword : encode j = commandWord o 0#8 0#8 0#8) : Implemented ⟨o, m, .f0⟩
  | ft {o : Byte} {m : String} {f : BusAddr → Instr} (hread : ∀ a b c, readRow o a b c = some (readFT f a b c))
      (hword : ∀ t, encode (f t) = commandWord o (addrField t) 0#8 0#8) : Implemented ⟨o, m, .ft⟩
  | ftb {o : Byte} {m : String} {f : BusAddr → Byte → Instr}
      (hread : ∀ a b c, readRow o a b c = some (readFTB f a b c))
      (hword : ∀ t b, encode (f t b) = commandWord o (addrField t) b 0#8) : Implemented ⟨o, m, .ftb⟩
  | ftbit {o : Byte} {m : String} {f : BusAddr → Bool → Instr}
      (hread : ∀ a b c, readRow o a b c = some (readFTbit f a b c))
      (hword : ∀ t v, encode (f t v) = commandWord o (addrField t) (bitField v) 0#8) : Implemented ⟨o, m, .ftbit⟩
  | ftbc {o : Byte} {m : String} {f : BusAddr → Byte → Byte → Instr}
      (hread : ∀ a b c, readRow o a b c = some (readFTBC f a b c))
      (hword : ∀ t b c, encode (f t b c) = commandWord o (addrField t) b c) : Implemented ⟨o, m, .ftbc⟩
  | ftc {o : Byte} {m : String} {f : BusAddr → Byte → Instr}
      (hread : ∀ a b c, readRow o a b c = some (readFTC f a b c))
      (hword : ∀ t c, encode (f t c) = commandWord o (addrField t) 0#8 c) : Implemented ⟨o, m, .ftc⟩
  | ftnn {o : Byte} {m : String} {f : BusAddr → Byte → Byte → Instr}
      (hread : ∀ a b c, readRow o a b c = some (readFTNN f a b c))
      (hword : ∀ t b c, encode (f t b c) = commandWord o (addrField t) b c) : Implemented ⟨o, m, .ftnn⟩
  | fa {o : Byte} {m : String} {f : Byte → Instr} (hread : ∀ a b c, readRow o a b c = some (readFA f a b c))
      (hword : ∀ a, encode (f a) = commandWord o a 0#8 0#8) : Implemented ⟨o, m, .fa⟩
  | fabit {o : Byte} {m : String} {f : Bool → Instr}
      (hread : ∀ a b c, readRow o a b c = some (readFAbit f a b c))
      (hword : ∀ v, encode (f v) = commandWord o (bitField v) 0#8 0#8) : Implemented ⟨o, m, .fabit⟩
  | fc {o : Byte} {m : String} {f : Byte → Instr} (hread : ∀ a b c, readRow o a b c = some (readFC f a b c))
      (hword : ∀ c, encode (f c) = commandWord o 0#8 0#8 c) : Implemented ⟨o, m, .fc⟩

/-- Every row of the opcode map is implemented; its format picks the constructor. -/
theorem implemented_of_mem {r : OpcodeRow} (hr : r ∈ opcodeRows) : r.Implemented := by
  fin_cases hr
  all_goals
    constructor
    case hread => exact fun _ _ _ => rfl
    case hword => intros; rfl

/-- The decoder has no opcode beside those of the opcode map. -/
theorem exists_row_of_readRow {o a b c : Byte} {x : Option Instr} (h : readRow o a b c = some x) :
    ∃ r ∈ opcodeRows, r.opc = o := by
  unfold readRow at h
  split at h
  case h_57 => cases h -- the match's last arm, for every other opcode
  all_goals decide

/-- What a row's reader accepts is the one word of the instruction it reads. -/
theorem OpcodeRow.Implemented.encode_of_read {r : OpcodeRow} (hr : r.Implemented) {a b c : Byte} {i : Instr}
    (h : readRow r.opc a b c = some (some i)) : encode i = commandWord r.opc a b c := by
  cases hr with
  | f0 hread hword =>
    simp only [hread, Option.some.injEq, readF0_eq_some] at h
    obtain ⟨⟨rfl, rfl, rfl⟩, rfl⟩ := h
    exact hword
  | ft hread hword =>
    simp only [hread, Option.some.injEq, readFT_eq_some] at h
    obtain ⟨⟨rfl, rfl⟩, t, rfl, rfl⟩ := h
    exact hword t
  | ftb hread hword =>
    simp only [hread, Option.some.injEq, readFTB_eq_some] at h
    obtain ⟨rfl, t, rfl, rfl⟩ := h
    exact hword t b
  | ftbit hread hword =>
    simp only [hread, Option.some.injEq, readFTbit_eq_some] at h
    obtain ⟨rfl, t, rfl, v, rfl, rfl⟩ := h
    exact hword t v
  | ftbc hread hword =>
    simp only [hread, Option.some.injEq, readFTBC_eq_some] at h
    obtain ⟨t, rfl, rfl⟩ := h
    exact hword t b c
  | ftc hread hword =>
    simp only [hread, Option.some.injEq, readFTC_eq_some] at h
    obtain ⟨rfl, t, rfl, rfl⟩ := h
    exact hword t c
  | ftnn hread hword =>
    simp only [hread, Option.some.injEq, readFTNN_eq_some] at h
    obtain ⟨t, rfl, rfl⟩ := h
    exact hword t b c
  | fa hread hword =>
    simp only [hread, Option.some.injEq, readFA_eq_some] at h
    obtain ⟨⟨rfl, rfl⟩, rfl⟩ := h
    exact hword a
  | fabit hread hword =>
    simp only [hread, Option.some.injEq, readFAbit_eq_some] at h
    obtain ⟨⟨rfl, rfl⟩, v, rfl, rfl⟩ := h
    exact hword v
  | fc hread hword =>
    simp only [hread, Option.some.injEq, readFC_eq_some] at h
    obtain ⟨⟨rfl, rfl⟩, rfl⟩ := h
    exact hword c

/-- A fully reserved byte must be 0 (R81). -/
theorem and_full_eq_zero (x : Byte) : x &&& 0xFF#8 = 0#8 ↔ x = 0#8 := by
  rw [show x &&& 0xFF#8 = x from BitVec.and_allOnes]

/-- A row's reader accepts the operand bytes exactly when no bit its format reserves is set (R81, R83). -/
theorem OpcodeRow.Implemented.exists_read_iff {r : OpcodeRow} (hr : r.Implemented) (a b c : Byte) :
    (∃ i, readRow r.opc a b c = some (some i)) ↔
      a &&& r.format.reservedA = 0#8 ∧ b &&& r.format.reservedB = 0#8 ∧ c &&& r.format.reservedC = 0#8 := by
  simp only [Format.reservedA, Format.reservedB, Format.reservedC]
  cases hr with
  | f0 hread => simp [hread, readF0_eq_some, and_full_eq_zero]
  | ft hread => simp [hread, readFT_eq_some, and_full_eq_zero, exists_addrField_iff, and_comm]
  | ftb hread => simp [hread, readFTB_eq_some, and_full_eq_zero, exists_addrField_iff, and_comm]
  | ftbit hread =>
    simp [hread, readFTbit_eq_some, and_full_eq_zero, exists_addrField_iff, exists_bitField_iff, and_comm,
      and_left_comm, -Bool.exists_bool]
  | ftbc hread => simp [hread, readFTBC_eq_some, exists_addrField_iff]
  | ftc hread => simp [hread, readFTC_eq_some, and_full_eq_zero, exists_addrField_iff, and_comm]
  | ftnn hread => simp [hread, readFTNN_eq_some, exists_addrField_iff]
  | fa hread => simp [hread, readFA_eq_some, and_full_eq_zero]
  | fabit hread =>
    simp [hread, readFAbit_eq_some, and_full_eq_zero, exists_bitField_iff, and_comm, -Bool.exists_bool]
  | fc hread => simp [hread, readFC_eq_some, and_full_eq_zero]

/-! ## The decoder and the encoder -/

/-- A word decodes to an instruction exactly when its opcode has a row and the row reads the instruction. -/
theorem decode_eq_ok_iff_readRow {w : Word} {i : Instr} :
    decode w = .ok i ↔ readRow (opcOf w) (opaOf w) (opbOf w) (opcByteOf w) = some (some i) := by
  unfold decode
  split
  · next r hr => cases r <;> simp [hr, orReserved]
  · next hr => simp [hr]

theorem decode_commandWord {o a b c : Byte} {x : Option Instr} {i : Instr} (hrow : readRow o a b c = some x)
    (hread : x = some i) : decode (commandWord o a b c) = .ok i := by
  simp [decode_eq_ok_iff_readRow, hrow, hread]

/-- The reader of an instruction's format accepts the operand bytes the encoder writes. -/
theorem decode_encode (i : Instr) : decode (encode i) = .ok i := by
  cases i
  case mquick t v | saddrset t v =>
    exact decode_commandWord rfl (readFTbit_eq_some.2 ⟨rfl, t, rfl, v, rfl, rfl⟩)
  case msendb t x | mblkrd t x | mpcall t x => exact decode_commandWord rfl (readFTB_eq_some.2 ⟨rfl, t, rfl, rfl⟩)
  case mrecvb t | arpgud t | arprstd t => exact decode_commandWord rfl (readFT_eq_some.2 ⟨⟨rfl, rfl⟩, t, rfl, rfl⟩)
  case mwrite t x n | mread t x n | mblkwr t x n | mbpcall t x n =>
    exact decode_commandWord rfl (readFTBC_eq_some.2 ⟨t, rfl, rfl⟩)
  case mi2cwr t n | mi2crd t n => exact decode_commandWord rfl (readFTC_eq_some.2 ⟨rfl, t, rfl, rfl⟩)
  case mi2cwrrd t m n => exact decode_commandWord rfl (readFTNN_eq_some.2 ⟨t, rfl, rfl⟩)
  case mnotify x | arpassign x | arpnotify x | udidenc x =>
    exact decode_commandWord rfl (readFA_eq_some.2 ⟨⟨rfl, rfl⟩, rfl⟩)
  case sarset v | savset v | sacksend v =>
    exact decode_commandWord rfl (readFAbit_eq_some.2 ⟨⟨rfl, rfl⟩, v, rfl, rfl⟩)
  case stxset n | srxset n => exact decode_commandWord rfl (readFC_eq_some.2 ⟨⟨rfl, rfl⟩, rfl⟩)
  all_goals exact decode_commandWord rfl (readF0_eq_some.2 ⟨⟨rfl, rfl, rfl⟩, rfl⟩)

/-- The row of the word's opcode reads the instruction from the operand bytes the encoder writes. -/
theorem encode_of_decode {w : Word} {i : Instr} (h : decode w = .ok i) : encode i = w := by
  have hread := decode_eq_ok_iff_readRow.1 h
  obtain ⟨r, hr, hopc⟩ := exists_row_of_readRow hread
  rw [← hopc] at hread
  rw [(implemented_of_mem hr).encode_of_read hread, hopc, commandWord_fields]

theorem decode_eq_ok_iff {w : Word} {i : Instr} : decode w = .ok i ↔ encode i = w :=
  ⟨encode_of_decode, by rintro rfl; exact decode_encode i⟩

/-- Settles O1, by a case for each format of R81. -/
theorem decodeInvertsEncode : Obligations.DecodeInvertsEncode := decode_encode

/-- Settles O2, by the row of the word's opcode. -/
theorem encodeInvertsDecode : Obligations.EncodeInvertsDecode := fun _ _ => encode_of_decode

/-- Settles O4: each word is the encoder's word of the command. -/
theorem specWordsDecode : Obligations.SpecWordsDecode := by
  simp only [Obligations.SpecWordsDecode, decode_eq_ok_iff]
  decide

/-! ## The words of the rows (R85) -/

/-- A word decodes exactly when a row selects it: the row's reader accepts what the row's mask lets through. -/
theorem decodes_iff_selected (w : Word) : (∃ i, decode w = .ok i) ↔ ∃ r ∈ opcodeRows, r.selects w = true := by
  simp only [decode_eq_ok_iff_readRow, OpcodeRow.selects_iff]
  constructor
  · rintro ⟨i, hread⟩
    obtain ⟨r, hr, hopc⟩ := exists_row_of_readRow hread
    rw [← hopc] at hread
    exact ⟨r, hr, hopc.symm, ((implemented_of_mem hr).exists_read_iff _ _ _).1 ⟨i, hread⟩⟩
  · rintro ⟨r, hr, hopc, hclear⟩
    rw [hopc]
    exact ((implemented_of_mem hr).exists_read_iff _ _ _).2 hclear

theorem OpcodeRow.selects_iff_mask (r : OpcodeRow) (w : Word) :
    r.selects w = true ↔ w &&& r.format.mask = r.matchWord := beq_iff_eq

/-- No opcode has two rows. -/
theorem row_eq_of_opc_eq {r r' : OpcodeRow} (hr : r ∈ opcodeRows) (hr' : r' ∈ opcodeRows) (h : r.opc = r'.opc) :
    r = r' :=
  List.inj_on_of_nodup_map (show (opcodeRows.map OpcodeRow.opc).Nodup by decide) hr hr' h

/-- Settles O3: two rows that select one word have its opcode. -/
theorem decodableWordsAreTheRowsWords : Obligations.DecodableWordsAreTheRowsWords := by
  simp only [Obligations.DecodableWordsAreTheRowsWords, ← OpcodeRow.selects_iff_mask]
  refine ⟨decodes_iff_selected, fun w r r' hr hr' hw hw' => row_eq_of_opc_eq hr hr' ?_⟩
  obtain ⟨hopc, -⟩ := (r.selects_iff w).1 hw
  obtain ⟨hopc', -⟩ := (r'.selects_iff w).1 hw'
  exact hopc.symm.trans hopc'

end Sys2Proof

namespace Sys2Proof.Machine

/-! ## Illegal words (R83, R84) -/

/-- A write of a word that does not decode is CmdErr (R84). -/
theorem step_of_undecodable {s : State} {w : Word} {inp : Inputs} {rest : List HostStep}
    (hs : s.schedule = .access .word 0 (.write w) inp :: rest) (hw : ∀ i, decode w ≠ .ok i) :
    step s = .next { s with
      schedule := rest, inputs := inp, reply := .none, result := { err := true, status := .ok, data := 0#8 } } := by
  rw [step_of_schedule hs, hostStep, busAccess_of_register exec (by decide) (by decide)]
  cases hdecode : decode w with
  | ok i => exact absurd hdecode (hw i)
  | error e => simp [regAccess, commandPort, hdecode]

/-- Settles O6: a word no row selects does not decode, and before the init a word that decodes is rejected, since the
inits' words have the inits' opcodes. -/
theorem illegalWordIsCmdErr : Obligations.IllegalWordIsCmdErr := by
  intro s w inp rest hs hillegal
  by_cases hdecode : ∃ i, decode w = .ok i
  · obtain ⟨i, hi⟩ := hdecode
    rcases hillegal with hnoRow | ⟨hinit, hnotMinit, hnotSinit⟩
    · obtain ⟨r, hr, hselects⟩ := (decodes_iff_selected w).1 ⟨i, hi⟩
      exact absurd ((r.selects_iff_mask w).1 hselects) (hnoRow r hr)
    · obtain rfl := encode_of_decode hi
      rw [stepRunsTheDecodedCommand s _ i inp rest hs hi]
      exact exec_of_not_inited i hinit (by rintro rfl; exact hnotMinit rfl) (by rintro rfl; exact hnotSinit rfl)
  · exact step_of_undecodable hs (not_exists.1 hdecode)

end Sys2Proof.Machine
end

section
/-! The CRC over a sequence of bytes: it is reversible in the seed and in every byte (O28). -/

namespace Sys2Proof.Machine

/-- The CRC of a sequence goes on from the CRC of its front. -/
theorem crc8_append (seed : Byte) (xs ys : List Byte) : crc8 seed (xs ++ ys) = crc8 (crc8 seed xs) ys := by
  induction xs generalizing seed with
  | nil => rfl
  | cons x xs ih => exact ih _

theorem crc8_singleton (seed b : Byte) : crc8 seed [b] = crcStep8 (seed ^^^ b) := rfl

/-- No seed is forgotten: every byte folded is a reversible step. -/
theorem crc8_injective_seed (xs : List Byte) : Function.Injective fun seed => crc8 seed xs := by
  induction xs with
  | nil => exact Function.injective_id
  | cons x xs ih => exact ih.comp (crcStep8_injective.comp fun _ _ => (BitVec.xor_left_inj x).1)

/-- No byte is forgotten either, whatever stands around it. -/
theorem crc8_injective_byte (seed : Byte) (xs ys : List Byte) :
    Function.Injective fun b => crc8 seed (xs ++ b :: ys) := by
  intro b b' h
  simp only [crc8_append, crc8_cons] at h
  exact (BitVec.xor_right_inj _).1 (crcStep8_injective (crc8_injective_seed ys h))

/-- One bit flipped makes another byte. -/
theorem xor_bit_ne_self (b : Byte) {k : Nat} (hk : k < 8) : b ≠ b ^^^ (1#8 <<< k) := by
  intro h
  have hbit := congrArg (fun v : Byte => v.getLsbD k) h
  simp [hk] at hbit

theorem crc8_append_self (seed : Byte) (xs : List Byte) : crc8 seed (xs ++ [crc8 seed xs]) = 0#8 := by
  rw [crc8_append, crc8_singleton, BitVec.xor_self]
  rfl

/-- Settles O28: the step is reversible, so nothing folded is lost, and an injection of the 256 bytes is a bijection. -/
theorem crcProperties : Obligations.CrcProperties := by
  refine ⟨fun s xs ys => (crc8_append s xs ys).symm, fun s b => ?_, fun s => ?_, fun b => ?_,
    fun s xs ys b k hk => ?_, crc8_append_self⟩
  · simp only [crc8_singleton, BitVec.zero_xor]
  · exact Finite.injective_iff_bijective.1 (crc8_injective_byte s [] [])
  · exact Finite.injective_iff_bijective.1 (crc8_injective_seed [b])
  · exact fun h => xor_bit_ne_self b hk (crc8_injective_byte s xs ys h)

end Sys2Proof.Machine
end

section
/-! A whole Block Write: the MINTPs of a transmission, each with its next state, and the runs they make up (O49). -/

namespace Sys2Proof.Machine

/-! ## One MINTP of a transmission (R217, R219 to R221) -/

theorem ite_setMaster (p : Prop) [Decidable p] (s : State) (c : Cursor) :
    (if p then s.setMaster c else s) = s.setMaster (if p then c else s.masterCursor) := by
  split <;> rfl

section
variable {s : State}

/-- The size byte goes out (R219). -/
theorem mintp_at_writeBlockSize (hinit : s.inited = true) (herr : s.inputs.noMasterError = true)
    (hcur : s.masterCursor = .writeBlockSize) : exec .mintp s = .next { s with
      computedCrc := if s.flags.pec = true then crc8 s.computedCrc [s.txSize] else s.computedCrc,
      masterCursor := if s.txSize = 1#8 ∧ s.flags.pec = false then .writeFinal else .writeNext,
      trace := s.trace ++ [.mIclrData, .mPut s.txSize, .mCtl .sendCont], result := ⟨false, .ok, 0#8⟩ } := by
  rw [mintp_of_noMasterError hinit herr]
  simp [masterDispatch, hcur, masterWriteBlockSize, State.emit, State.fold, State.setMaster]

/-- A payload byte goes out, and the wire bytes that are left choose the cursor (R220). -/
theorem mintp_at_writeNext {b : Byte} (hinit : s.inited = true) (herr : s.inputs.noMasterError = true)
    (hcur : s.masterCursor = .writeNext) (hlt : s.txIndex < s.txSize)
    (hread : s.txbuf.read s.txIndex.toNat = some b) : exec .mintp s = .next { s with
      txIndex := s.txIndex + 1#8,
      computedCrc := if s.flags.pec = true then crc8 s.computedCrc [b] else s.computedCrc,
      masterCursor := if txRem { s with txIndex := s.txIndex + 1#8 } = 1 then .writeFinal else .writeNext,
      trace := s.trace ++ [.mIclrData, .mPut b, .mCtl .sendCont], result := ⟨false, .ok, 0#8⟩ } := by
  rw [mintp_of_noMasterError hinit herr]
  have hroom : ¬s.txSize ≤ s.txIndex := by simpa using hlt
  simp only [masterDispatch, State.emit_masterCursor, hcur, masterWriteNext, State.emit_txSize, State.emit_txIndex,
    if_neg hroom, withNextTx_of_some (s := s.emit .mIclrData) hread, ite_setMaster]
  simp [txRem, txLeft, txpec1, hcur, State.emit, State.fold, State.setMaster]

/-- The PEC byte goes out and the bus is released (R221). -/
theorem mintp_at_writeFinal_pec (hinit : s.inited = true) (herr : s.inputs.noMasterError = true)
    (hcur : s.masterCursor = .writeFinal) (hpec : s.flags.pec = true) (hpc : s.flags.pc = false) :
    exec .mintp s = .next { s with
      masterCursor := .idle, trace := s.trace ++ [.mIclrData, .mPut s.computedCrc, .mCtl .sendFinish],
      result := ⟨false, .ok, 0#8⟩ } := by
  rw [mintp_of_noMasterError hinit herr]
  simp [masterDispatch, hcur, masterWriteFinal, masterWriteEnd, hpec, hpc, State.emit, State.setMaster]

/-- Without PEC the last payload byte goes out and the bus is released (R221). -/
theorem mintp_at_writeFinal_byte {b : Byte} (hinit : s.inited = true) (herr : s.inputs.noMasterError = true)
    (hcur : s.masterCursor = .writeFinal) (hpec : s.flags.pec = false) (hpc : s.flags.pc = false)
    (hlt : s.txIndex < s.txSize) (hread : s.txbuf.read s.txIndex.toNat = some b) : exec .mintp s = .next { s with
      txIndex := s.txIndex + 1#8, masterCursor := .idle,
      trace := s.trace ++ [.mIclrData, .mPut b, .mCtl .sendFinish], result := ⟨false, .ok, 0#8⟩ } := by
  rw [mintp_of_noMasterError hinit herr]
  have hroom : ¬s.txSize ≤ s.txIndex := by simpa using hlt
  simp [masterDispatch, hcur, masterWriteFinal, masterWriteEnd, hroom, hpec, hpc,
    withNextTx_of_some (s := s.emit .mIclrData) hread, State.setMaster]

/-- The interrupt after the last byte ends the transaction (R217). -/
theorem mintp_at_idle (hinit : s.inited = true) (herr : s.inputs.noMasterError = true)
    (hcur : s.masterCursor = .idle) : exec .mintp s = .next { s with
      flags := { s.flags with tip := false }, trace := s.trace ++ [.mIclrData], result := ⟨false, .ok, 0#8⟩ } := by
  rw [mintp_of_noMasterError hinit herr]
  simp [masterDispatch, hcur, masterIdle, State.emit, State.setTip]

end

/-! ## A run of MINTPs -/

theorem putBytes_append (xs ys : List Action) : putBytes (xs ++ ys) = putBytes xs ++ putBytes ys := by
  induction xs with
  | nil => rfl
  | cons x xs ih => cases x <;> simp [putBytes, ih]

theorem afterMintps_cons {x : Inputs} {s t : State} (hmintp : exec .mintp { s with inputs := x } = .next t)
    (rest : List Inputs) : afterMintps (x :: rest) s = afterMintps rest t := by
  simp only [afterMintps, hmintp]

/-- These MINTPs end the transaction with Ok, and the block puts `bytes` on the way. -/
def Finishes (ins : List Inputs) (s : State) (bytes : List Byte) : Prop :=
  ∃ (t : State) (acts : List Action), afterMintps ins s = .next t ∧
    t.flags.tip = false ∧ t.masterCursor = .idle ∧ t.result = ⟨false, .ok, 0#8⟩ ∧
    t.trace = s.trace ++ acts ∧ putBytes acts = bytes

/-- One MINTP more in front of a run puts its own bytes first. -/
theorem finishes_cons {x : Inputs} {rest : List Inputs} {s t : State} {acts : List Action} {bytes : List Byte}
    (hmintp : exec .mintp { s with inputs := x } = .next t) (htrace : t.trace = s.trace ++ acts)
    (hrest : Finishes rest t bytes) : Finishes (x :: rest) s (putBytes acts ++ bytes) := by
  obtain ⟨u, more, hrun, htip, hcur, hresult, hmore, rfl⟩ := hrest
  refine ⟨u, acts ++ more, ?_, htip, hcur, hresult, ?_, putBytes_append acts more⟩
  · rw [afterMintps_cons hmintp, hrun]
  · rw [hmore, htrace, List.append_assoc]

/-- In `Idle` one MINTP is enough, and it puts nothing. -/
theorem finishes_of_idle {x : Inputs} {s : State} (hinit : s.inited = true) (herr : x.noMasterError = true)
    (hcur : s.masterCursor = .idle) : Finishes [x] s [] := by
  have hmintp := mintp_at_idle (s := { s with inputs := x }) hinit herr hcur
  exact ⟨_, [.mIclrData], afterMintps_cons hmintp [], rfl, hcur, rfl, rfl, rfl⟩

/-! ## The payload and the PEC byte (R216, R220, R221) -/

/-- The payload bytes `rest` are still to send, all of them written, and the cursor is where that many wire bytes
leave it (R216). -/
structure State.Sending (s : State) (rest : List Byte) : Prop where
  inited : s.inited = true
  noCall : s.flags.pc = false
  size : s.txSize.toNat = s.txIndex.toNat + rest.length
  written : ∀ k, k < rest.length → s.txbuf.read (s.txIndex.toNat + k) = rest[k]?
  cursor : s.masterCursor = if txRem s = 1 then .writeFinal else .writeNext

/-- The wire bytes that follow from here: the payload that is left and, with PEC, the CRC over all of it. -/
def State.wireRest (s : State) (rest : List Byte) : List Byte :=
  rest ++ if s.flags.pec = true then [crc8 s.computedCrc rest] else []

theorem State.Sending.txRem_eq {s : State} {rest : List Byte} (h : s.Sending rest) :
    txRem s = rest.length + pec1 s := by
  simp [txRem, txLeft, txpec1, pec1, h.size, h.noCall]

theorem State.Sending.lt {s : State} {b : Byte} {rest : List Byte} (h : s.Sending (b :: rest)) :
    s.txIndex < s.txSize := by
  have hsize := h.size
  rw [List.length_cons] at hsize
  rw [BitVec.lt_def]
  omega

theorem State.Sending.read {s : State} {b : Byte} {rest : List Byte} (h : s.Sending (b :: rest)) :
    s.txbuf.read s.txIndex.toNat = some b := h.written 0 (by simp)

/-- One byte put, the rest is still to send. -/
theorem State.Sending.tail {s t : State} {b : Byte} {rest : List Byte} (h : s.Sending (b :: rest))
    (hinit : t.inited = true) (hpc : t.flags.pc = false) (hindex : t.txIndex = s.txIndex + 1#8)
    (hsize : t.txSize = s.txSize) (hbuf : t.txbuf = s.txbuf)
    (hcur : t.masterCursor = if txRem t = 1 then .writeFinal else .writeNext) : t.Sending rest := by
  have hsucc : t.txIndex.toNat = s.txIndex.toNat + 1 := by rw [hindex, toNat_succ_of_lt h.lt]
  refine ⟨hinit, hpc, ?_, fun k hk => ?_, hcur⟩
  · rw [hsize, h.size, hsucc, List.length_cons]
    omega
  · have hwritten := h.written (k + 1) (by simpa using hk)
    rw [hbuf, hsucc, Nat.add_assoc, Nat.add_comm 1 k, hwritten, List.getElem?_cons_succ]

/-- A byte put and folded is the first of the wire bytes that were left (R112). -/
theorem State.wireRest_cons {s t : State} {b : Byte} (rest : List Byte) (hpec : t.flags.pec = s.flags.pec)
    (hcrc : t.computedCrc = if s.flags.pec = true then crc8 s.computedCrc [b] else s.computedCrc) :
    s.wireRest (b :: rest) = b :: t.wireRest rest := by
  rw [State.wireRest, State.wireRest, hpec, hcrc]
  split <;> rfl

theorem txRem_of_lt {s : State} (h : s.txIndex < s.txSize) :
    txRem s = txRem { s with txIndex := s.txIndex + 1#8 } + 1 := by
  have hsucc := toNat_succ_of_lt h
  rw [BitVec.lt_def] at h
  simp only [txRem, txLeft, txpec1, hsucc]
  omega

/-- While more than one wire byte is left, MINTP puts the next byte of the payload (R220). -/
theorem State.Sending.mintp {s : State} {b : Byte} {rest : List Byte} {x : Inputs} (h : s.Sending (b :: rest))
    (hmore : txRem s ≠ 1) (hx : x.noMasterError = true) :
    ∃ t, exec .mintp { s with inputs := x } = .next t ∧ t.Sending rest ∧ txRem s = txRem t + 1 ∧
      t.trace = s.trace ++ [.mIclrData, .mPut b, .mCtl .sendCont] ∧ s.wireRest (b :: rest) = b :: t.wireRest rest := by
  have hcur : s.masterCursor = .writeNext := by rw [h.cursor, if_neg hmore]
  exact ⟨_, mintp_at_writeNext (s := { s with inputs := x }) h.inited hx hcur h.lt h.read,
    h.tail h.inited h.noCall rfl rfl rfl rfl, txRem_of_lt h.lt, rfl, State.wireRest_cons rest rfl rfl⟩

/-- With one wire byte left it is the PEC byte, or without PEC the last byte of the payload (R221). -/
theorem finishes_of_one_left {s : State} {rest : List Byte} {ins : List Inputs} (h : s.Sending rest)
    (hone : txRem s = 1) (hins : ins.length = txRem s + 1) (herr : ∀ x ∈ ins, x.noMasterError = true) :
    Finishes ins s (s.wireRest rest) := by
  obtain ⟨x, y, rfl⟩ := List.length_eq_two.1 (hins.trans (by rw [hone]))
  have hx : x.noMasterError = true := herr x (by simp)
  have hy : y.noMasterError = true := herr y (by simp)
  have hcur : s.masterCursor = .writeFinal := by rw [h.cursor, if_pos hone]
  have hlength := h.txRem_eq
  cases hpec : s.flags.pec with
  | true =>
    obtain rfl : rest = [] := by simpa [hone, pec1, hpec] using hlength
    have hmintp := mintp_at_writeFinal_pec (s := { s with inputs := x }) h.inited hx hcur hpec h.noCall
    simpa [State.wireRest, hpec, putBytes, crc8_nil] using finishes_cons hmintp rfl (finishes_of_idle h.inited hy rfl)
  | false =>
    obtain ⟨b, rfl⟩ : ∃ b, rest = [b] := List.length_eq_one_iff.1 (by simpa [hone, pec1, hpec] using hlength.symm)
    have hmintp := mintp_at_writeFinal_byte (s := { s with inputs := x }) h.inited hx hcur hpec h.noCall h.lt h.read
    simpa [State.wireRest, hpec, putBytes] using finishes_cons hmintp rfl (finishes_of_idle h.inited hy rfl)

/-- The rest of a transmission takes a MINTP for each wire byte and one more for the end (R216, R217). -/
theorem finishes_of_sending {rest : List Byte} {s : State} {ins : List Inputs} (h : s.Sending rest)
    (hleft : 1 ≤ txRem s) (hins : ins.length = txRem s + 1) (herr : ∀ x ∈ ins, x.noMasterError = true) :
    Finishes ins s (s.wireRest rest) := by
  induction rest generalizing s ins with
  | nil =>
    have hone : txRem s = 1 := by
      have hle : pec1 s ≤ 1 := by unfold pec1; split <;> decide
      have hlength := h.txRem_eq
      rw [List.length_nil] at hlength
      omega
    exact finishes_of_one_left h hone hins herr
  | cons b rest ih =>
    by_cases hone : txRem s = 1
    · exact finishes_of_one_left h hone hins herr
    · obtain ⟨x, ins, rfl⟩ := List.exists_cons_of_length_eq_add_one hins
      obtain ⟨t, hmintp, hsending, hrem, htrace, hwire⟩ := h.mintp hone (herr x (by simp))
      rw [List.length_cons] at hins
      rw [hwire]
      exact finishes_cons hmintp htrace
        (ih hsending (by omega) (by omega) fun y hy => herr y (List.mem_cons_of_mem x hy))

/-! ## The whole Block Write (R185, R219) -/

/-- A Block Write of `payload`, all of it written, whose size byte is the next wire byte (R185). -/
structure State.AtBlockSize (s : State) (payload : List Byte) : Prop where
  inited : s.inited = true
  noCall : s.flags.pc = false
  cursor : s.masterCursor = .writeBlockSize
  index : s.txIndex = 0#8
  size : s.txSize.toNat = payload.length
  nonempty : 1 ≤ payload.length
  written : ∀ k, k < payload.length → s.txbuf.read k = payload[k]?

section
variable {s : State} {payload : List Byte}

/-- The condition of R219 is the one of R216: one wire byte is left after the size byte. -/
theorem State.AtBlockSize.oneByte_iff (h : s.AtBlockSize payload) :
    (s.txSize = 1#8 ∧ s.flags.pec = false) ↔ txRem s = 1 := by
  have hpos : 1 ≤ s.txSize.toNat := h.size ▸ h.nonempty
  have hleft : txRem s = s.txSize.toNat + pec1 s := by simp [txRem, txLeft, txpec1, pec1, h.index, h.noCall]
  rw [← BitVec.toNat_inj, hleft, pec1]
  cases s.flags.pec with
  | false => simp
  | true => simpa using Nat.ne_zero_of_lt hpos

/-- MINTP puts the size byte, and the payload is left to send (R219). -/
theorem State.AtBlockSize.mintp {x : Inputs} (h : s.AtBlockSize payload) (hx : x.noMasterError = true) :
    ∃ t, exec .mintp { s with inputs := x } = .next t ∧ t.Sending payload ∧ pec1 t = pec1 s ∧
      t.trace = s.trace ++ [.mIclrData, .mPut s.txSize, .mCtl .sendCont] ∧
      s.wireRest (s.txSize :: payload) = s.txSize :: t.wireRest payload := by
  have hindex : s.txIndex.toNat = 0 := by rw [h.index]; rfl
  have hsize : s.txSize.toNat = s.txIndex.toNat + payload.length := by rw [hindex, h.size, Nat.zero_add]
  have hwritten : ∀ k, k < payload.length → s.txbuf.read (s.txIndex.toNat + k) = payload[k]? := by
    simpa [hindex] using h.written
  exact ⟨_, mintp_at_writeBlockSize (s := { s with inputs := x }) h.inited hx h.cursor,
    ⟨h.inited, h.noCall, hsize, hwritten, if_congr h.oneByte_iff rfl rfl⟩, rfl, rfl,
    State.wireRest_cons payload rfl rfl⟩

/-- From `WriteBlockSize` the block puts the size, the payload and, with PEC, the CRC over both (R219 to R221). -/
theorem finishes_of_blockSize {ins : List Inputs} (h : s.AtBlockSize payload)
    (hins : ins.length = payload.length + pec1 s + 2) (herr : ∀ x ∈ ins, x.noMasterError = true) :
    Finishes ins s (s.wireRest (s.txSize :: payload)) := by
  obtain ⟨x, ins, rfl⟩ := List.exists_cons_of_length_eq_add_one hins
  obtain ⟨t, hmintp, hsending, hpec, htrace, hwire⟩ := h.mintp (herr x (by simp))
  have hrem := hsending.txRem_eq
  have hpos := h.nonempty
  rw [List.length_cons] at hins
  rw [hwire]
  exact finishes_cons hmintp htrace
    (finishes_of_sending hsending (by omega) (by omega) fun y hy => herr y (List.mem_cons_of_mem x hy))

end

/-- MBLKWR with the peripheral free and a size of 1 to 32 is the start of its row (R178, R185). -/
theorem mblkwr_of_free {s : State} (a : BusAddr) (c : Byte) {n : Byte} (hinit : s.inited = true)
    (hfree : s.inputs.periphBusy = false) (hsize : blockSizeOk n = true) : exec (.mblkwr a c n) s =
      arm s (rowCommand a c n 0#8 true false fun _ => .writeBlockSize) := by
  rw [show exec (.mblkwr a c n) s = whenInited s (startBlockWrite a c n s) from rfl, whenInited_of_true hinit,
    startBlockWrite, hsize, startChecked_of_free hfree]

/-- The start of a Block Write puts the command byte and waits to put the size. -/
theorem mblkwr_atBlockSize {s : State} {payload : List Byte} (a : BusAddr) (c : Byte) (hinit : s.inited = true)
    (hfree : s.inputs.periphBusy = false) (hpos : 1 ≤ payload.length) (hle : payload.length ≤ 32)
    (hwritten : ∀ k, k < payload.length → s.txbuf.read k = payload[k]?) :
    ∃ t, exec (.mblkwr a c (BitVec.ofNat 8 payload.length)) s = .next t ∧ t.AtBlockSize payload ∧
      t.txSize = BitVec.ofNat 8 payload.length ∧ t.flags.pec = s.flags.pec ∧
      t.computedCrc = (if s.flags.pec = true then crc8 0#8 [addrByte a false, c] else 0#8) ∧
      t.trace = s.trace ++ [.mAddr a false, .mPut c, .mCtl .sendStart] := by
  have hsize : (BitVec.ofNat 8 payload.length).toNat = payload.length := by
    rw [BitVec.toNat_ofNat]
    omega
  have hok : blockSizeOk (BitVec.ofNat 8 payload.length) = true := by
    rw [blockSizeOk_iff, hsize]
    exact ⟨hpos, hle⟩
  have hpec : (s.flags.pec && !false) = s.flags.pec := Bool.and_true _
  refine ⟨_, (mblkwr_of_free a c hinit hfree hok).trans (arm_eq s _),
    ⟨hinit, rfl, rfl, rfl, hsize, hpos, hwritten⟩, rfl, hpec, ?_, rfl⟩
  exact if_congr (by simp [rowCommand]) rfl rfl

/-- Settles O49: the start puts the command, and the MINTPs put what `finishes_of_blockSize` says. -/
theorem blockWriteCompletes : Obligations.BlockWriteCompletes := by
  intro s a c payload ins hinit hfree hpos hle hwritten hins herr
  obtain ⟨t0, hstart, hat, hsize, hpec, hcrc, htrace⟩ := mblkwr_atBlockSize a c hinit hfree hpos hle hwritten
  have hcount : ins.length = payload.length + pec1 t0 + 2 := by
    rw [hins, pec1, hpec]
    split <;> rfl
  obtain ⟨t, acts, hrun, htip, hcur, hresult, hacts, hput⟩ := finishes_of_blockSize hat hcount herr
  refine ⟨t0, t, [.mAddr a false, .mPut c, .mCtl .sendStart] ++ acts, hstart, hrun, htip, hcur, hresult, ?_, ?_⟩
  · rw [hacts, htrace, List.append_assoc]
  · rw [putBytes_append, hput, State.wireRest, hpec, hcrc, hsize]
    split <;> rfl

end Sys2Proof.Machine
end

section
/-! The inits, the setters, the getters and the pass-through commands, each with its whole next state (O16 to O19). -/

namespace Sys2Proof.Machine

/-! ## The commands that end at once on an initialised block (R34, R102) -/

section
variable {s : State}

/-- An initialised block runs a guarded command, which ends with what it prepared and the result (R34, R102). -/
theorem whenInited_finish (hinit : s.inited = true) (s1 : State) (st : Status) (d : Byte) :
    whenInited s (finish s1 st d) = .next { s1 with result := ⟨false, st, d⟩ } := by
  rw [whenInited_of_true hinit, finish_eq]

/-- A flag setter ends with the flags of its row in `flagSetting`. -/
theorem exec_of_flagSetting {i : Instr} {f : Flags} (hinit : s.inited = true)
    (hf : flagSetting i s.flags = some f) :
    exec i s = .next { s with flags := f, result := ⟨false, .ok, 0#8⟩ } := by
  cases i
  case pecen | pecdis | arpen | arpdis | spcen | spcdis | sblken | sblkdis | si2cen | si2cdis | sarset | savset =>
    cases hf
    exact whenInited_finish hinit _ .ok 0#8
  all_goals cases hf

/-- The action a pass-through command hands to the transport (R129, R130, R276, R277, R279); none where the command is
no pass-through. -/
def passedAction : Instr → Option Action
  | .minten => some .mIen
  | .sinten => some .sIen
  | .smacken => some (.sAckOvr true)
  | .smackdis => some (.sAckOvr false)
  | .sacksend v => some (.sAckVal v)
  | _ => none

/-- A pass-through command ends with its action at the end of the trace. -/
theorem exec_of_passedAction {i : Instr} {a : Action} (hinit : s.inited = true) (ha : passedAction i = some a) :
    exec i s = .next { s with trace := s.trace ++ [a], result := ⟨false, .ok, 0#8⟩ } := by
  cases i
  case minten | sinten | smacken | smackdis | sacksend =>
    cases ha
    exact whenInited_finish hinit (s.emit _) .ok 0#8
  all_goals cases ha

/-- What a getter reports (R127, R128, R278, R285, R286, R293, R295); none where the command is no getter. -/
def getterReport : Instr → State → Option (Status × Byte)
  | .statget, s => some (if s.flags.tip then .transferInProgress else .transferComplete, 0#8)
  | .rxcnt, s => some (.ok, s.rxIndex)
  | .scmdget, s => some (.ok, s.currentCommand)
  | .sarget, s => some (.ok, bitByte s.flags.ar)
  | .savget, s => some (.ok, bitByte s.flags.av)
  | .smackget, s => some (.ok, bitByte s.inputs.ackOverride)
  | .saddrget, s => some (if s.inputs.stOwn2 then .secondaryAddressMatched else .primaryAddressMatched, 0#8)
  | _, _ => none

/-- A getter ends with its report in `result`, and writes nothing else. -/
theorem exec_of_getterReport {i : Instr} {st : Status} {d : Byte} (hinit : s.inited = true)
    (hr : getterReport i s = some (st, d)) : exec i s = .next { s with result := ⟨false, st, d⟩ } := by
  cases i
  case statget | rxcnt | scmdget | sarget | savget | smackget | saddrget =>
    cases hr
    exact whenInited_finish hinit s _ _
  all_goals cases hr

end

/-! ## The obligations -/

/-- Settles O16: an init ends in `initFields`, SINIT with its action emitted, and neither asks for `inited`. -/
theorem initsZeroTheFields : Obligations.InitsZeroTheFields :=
  ⟨rfl, rfl, fun s => ⟨finish_eq s.initFields .ok 0#8, finish_eq (s.initFields.emit .sEnable) .ok 0#8⟩⟩

/-- Settles O17: the flag setters by their rows of `flagSetting`; SUDIDSET writes `udid_bound` in place of a flag. -/
theorem settersWriteOneFlag : Obligations.SettersWriteOneFlag := by
  refine ⟨rfl, fun s hinit => ?_⟩
  have setter {i : Instr} {f : Flags} (hf : flagSetting i s.flags = some f) := exec_of_flagSetting hinit hf
  exact ⟨setter rfl, setter rfl, setter rfl, setter rfl, setter rfl, setter rfl, setter rfl, setter rfl, setter rfl,
    setter rfl, fun _ => setter rfl, fun _ => setter rfl, whenInited_finish hinit { s with udidBound := true } .ok 0#8⟩

/-- Settles O18, by the rows of `getterReport`. -/
theorem gettersWriteOnlyResult : Obligations.GettersWriteOnlyResult := by
  refine ⟨rfl, fun s hinit => ?_⟩
  have getter {i : Instr} {st : Status} {d : Byte} (hr : getterReport i s = some (st, d)) := exec_of_getterReport hinit hr
  exact ⟨getter rfl, getter rfl, getter rfl, getter rfl, getter rfl, getter rfl, getter rfl⟩

/-- Settles O19, by the rows of `passedAction`. -/
theorem passThroughsEmitOneAction : Obligations.PassThroughsEmitOneAction := by
  refine ⟨rfl, fun s hinit => ?_⟩
  have passes {i : Instr} {a : Action} (ha : passedAction i = some a) := exec_of_passedAction hinit ha
  exact ⟨passes rfl, passes rfl, passes rfl, passes rfl, fun _ => passes rfl⟩

end Sys2Proof.Machine
end

section
/-! The master start commands: the two checks that come before every write, and the whole next state of each start
(O30 to O38). -/

namespace Sys2Proof.Machine

/-! ## The checks before a start, on an initialised block (R171, R172) -/

section
variable {s : State}

/-- With the peripheral busy a start only reports it, whatever its size (R171). -/
theorem start_of_busy (hinit : s.inited = true) (hbusy : s.inputs.periphBusy = true) (ok : Bool) (o : Out) :
    whenInited s (startChecked s ok o) = .next { s with result := ⟨false, .peripheralBusy, 0#8⟩ } := by
  rw [whenInited_of_true hinit, startChecked_cases, if_pos hbusy]

/-- With the peripheral free a start of a size outside its limits only reports that (R172). -/
theorem start_of_badSize (hinit : s.inited = true) (hfree : s.inputs.periphBusy = false) {ok : Bool} (hok : ok = false)
    (o : Out) :
    whenInited s (startChecked s ok o) = .next { s with result := ⟨false, .dataSizeError, 0#8⟩ } := by
  rw [whenInited_of_true hinit, startChecked_cases, hfree, hok]
  rfl

/-- With the peripheral free and a size within its limits a start runs. -/
theorem start_of_free (hinit : s.inited = true) (hfree : s.inputs.periphBusy = false) {ok : Bool} (hok : ok = true)
    (o : Out) : whenInited s (startChecked s ok o) = o := by
  rw [whenInited_of_true hinit, hok, startChecked_of_free hfree]

/-! ## The two ways a row treats PEC (R174) -/

/-- A row that keeps PEC: the accumulator, the entry and the control command go by the flag. -/
theorem arm_of_pecKept {r : StartRow} (hkept : r.pecOff = false) :
    arm s r = .next { s with
      targetAddress := r.target, currentCommand := r.cmd.getD s.currentCommand, txSize := r.txSize,
      txIndex := r.txIndex, rxSize := r.rxSize, rxIndex := 0#8,
      computedCrc := if s.flags.pec = true then crc8 0#8 (addrByte r.target r.dir :: r.first.toList) else 0#8,
      receivedCrc := 0#8, masterCursor := r.entry s.flags.pec,
      slaveCursor := if r.turn then turnaroundCursor else s.slaveCursor,
      flags := { s.flags with blk := r.blk, pc := r.pc, raw := r.raw, tip := true },
      trace := s.trace ++ (.mAddr r.target r.dir :: (r.first.toList.map .mPut ++ [.mCtl (r.ctl s.flags.pec)])),
      result := ⟨false, if s.inputs.busBusy = true then .busBusy else .ok, 0#8⟩ } := by
  have hpec : (s.flags.pec && !r.pecOff) = s.flags.pec := by rw [hkept, Bool.not_false, Bool.and_true]
  rw [arm_eq, hpec]

/-- A row that forces PEC off: no byte is folded, and the flag stays cleared. -/
theorem arm_of_pecOff {r : StartRow} (hoff : r.pecOff = true) :
    arm s r = .next { s with
      targetAddress := r.target, currentCommand := r.cmd.getD s.currentCommand, txSize := r.txSize,
      txIndex := r.txIndex, rxSize := r.rxSize, rxIndex := 0#8, computedCrc := 0#8, receivedCrc := 0#8,
      masterCursor := r.entry false, slaveCursor := if r.turn then turnaroundCursor else s.slaveCursor,
      flags := { s.flags with blk := r.blk, pc := r.pc, raw := r.raw, pec := false, tip := true },
      trace := s.trace ++ (.mAddr r.target r.dir :: (r.first.toList.map .mPut ++ [.mCtl (r.ctl false)])),
      result := ⟨false, if s.inputs.busBusy = true then .busBusy else .ok, 0#8⟩ } := by
  have hpec : (s.flags.pec && !r.pecOff) = false := by rw [hoff, Bool.not_true, Bool.and_false]
  rw [arm_eq, hpec]
  rfl

end

/-! ## The obligations -/

/-- Settles O30: the busy check is the first of every start; ARPASSIGN and ARPNOTIFY make it before they touch TXBUF
(R309, R310). -/
theorem busyPeripheralRefusesEveryStart : Obligations.BusyPeripheralRefusesEveryStart := by
  intro i s hinit hstart hbusy
  cases i
  case arpassign | arpnotify => exact (whenInited_of_true hinit _).trans (if_pos hbusy)
  case mquick | msendb | mrecvb | mwrite | mread | mblkwr | mblkrd | mpcall | mbpcall | mnotify | mi2cwr | mi2crd
      | mi2cwrrd | arpgug | arpgud | arprstg | arprstd | arpprep => exact start_of_busy hinit hbusy _ _
  all_goals cases hstart

/-- Settles O31: each limit of R172 fails its check. -/
theorem badSizesAreRejected : Obligations.BadSizesAreRejected := by
  intro s a c m n hinit hfree
  refine ⟨fun hsize => ?word, fun hsize => ?block, fun hsize => ?raw, fun hsize => ?rawBoth⟩
  case word =>
    have hbad := (wordSizeOk_false n).mpr hsize
    exact ⟨start_of_badSize hinit hfree hbad _, start_of_badSize hinit hfree hbad _⟩
  case block =>
    have hbad := (blockSizeOk_false n).mpr hsize
    exact ⟨start_of_badSize hinit hfree hbad _, start_of_badSize hinit hfree hbad _⟩
  case raw =>
    have hbad := (rawSizeOk_false n).mpr hsize
    exact ⟨start_of_badSize hinit hfree hbad _, start_of_badSize hinit hfree hbad _⟩
  case rawBoth =>
    have hbad : (rawSizeOk m && rawSizeOk n) = false := by
      rw [Bool.and_eq_false_iff, rawSizeOk_false, rawSizeOk_false]
      exact hsize
    exact start_of_badSize hinit hfree hbad _

/-- Settles O32: the row of MQUICK forces PEC off, the row of MNOTIFY keeps it and names the host address. -/
theorem quickCommandAndHostNotifyStart : Obligations.QuickCommandAndHostNotifyStart := by
  intro s a d c hinit hfree
  have hhost : addrByte hostAddr false = 0x10#8 := by decide
  refine ⟨(start_of_free hinit hfree rfl _).trans (arm_of_pecOff rfl), ?_⟩
  rw [← hhost]
  exact (start_of_free hinit hfree rfl _).trans (arm_of_pecKept rfl)

/-- Settles O33: both rows keep PEC, and their entry and control command are functions of it (R181, R182). -/
theorem sendAndReceiveByteStart : Obligations.SendAndReceiveByteStart :=
  fun _ _ _ hinit hfree =>
    ⟨(start_of_free hinit hfree rfl _).trans (arm_of_pecKept rfl),
      (start_of_free hinit hfree rfl _).trans (arm_of_pecKept rfl)⟩

/-- Settles O34: sizes 1 and 2 pass the check of R172. -/
theorem writeAndReadWordStart : Obligations.WriteAndReadWordStart := by
  intro s a c n hinit hfree hsize
  have hok : wordSizeOk n = true := by
    rcases hsize with rfl | rfl <;> rfl
  exact ⟨(start_of_free hinit hfree hok _).trans (arm_of_pecKept rfl),
    (start_of_free hinit hfree hok _).trans (arm_of_pecKept rfl)⟩

/-- Settles O35: MBLKWR passes its size check, MBLKRD has none (R172). -/
theorem blockWriteAndReadStart : Obligations.BlockWriteAndReadStart :=
  fun _ a c n hinit hfree =>
    ⟨fun hpos hle => (mblkwr_of_free a c hinit hfree ((blockSizeOk_iff n).mpr ⟨hpos, hle⟩)).trans (arm_of_pecKept rfl),
      (start_of_free hinit hfree rfl _).trans (arm_of_pecKept rfl)⟩

/-- Settles O36: MBPCALL passes its size check, MPCALL has none (R172). -/
theorem processCallsStart : Obligations.ProcessCallsStart :=
  fun _ _ _ n hinit hfree =>
    ⟨(start_of_free hinit hfree rfl _).trans (arm_of_pecKept rfl),
      fun hpos hle =>
        (start_of_free hinit hfree ((blockSizeOk_iff n).mpr ⟨hpos, hle⟩) _).trans (arm_of_pecKept rfl)⟩

/-- Settles O37: MI2CWR reads `TXBUF[0]` after the checks, and its row arms that byte. -/
theorem rawWriteAndReadStart : Obligations.RawWriteAndReadStart := by
  intro s a n hinit hfree hsize
  have hok := (rawSizeOk_iff n).mpr hsize
  refine ⟨fun b hb => ?_, (start_of_free hinit hfree hok _).trans (arm_of_pecOff rfl)⟩
  exact ((start_of_free hinit hfree hok _).trans (withTxByte_of_some hb _)).trans (arm_of_pecOff rfl)

/-- Settles O38: the turn-around write is due exactly for a one-byte write part. -/
theorem rawWriteReadStarts : Obligations.RawWriteReadStarts := by
  intro s a m n b hinit hfree hm hn hb
  have hok : (rawSizeOk m && rawSizeOk n) = true := by
    rw [(rawSizeOk_iff m).mpr hm, (rawSizeOk_iff n).mpr hn, Bool.and_self]
  have hturn : (if decide (m = 1#8) = true then turnaroundCursor else s.slaveCursor) =
      if m = 1#8 then turnaroundCursor else s.slaveCursor := if_congr decide_eq_true_iff rfl rfl
  rw [← hturn]
  exact ((start_of_free hinit hfree hok _).trans (withTxByte_of_some hb _)).trans (arm_of_pecOff rfl)

end Sys2Proof.Machine
end

section
/-! MINTP: the error inputs, the dispatch on the cursor, and every handler with its whole next state (O39 to O48). -/

namespace Sys2Proof.Machine

section
variable {s : State}

/-! ## The error inputs, in their order (R210 to R214) -/

theorem mintp_of_inited (hinit : s.inited = true) : exec .mintp s = masterInterrupt s := whenInited_of_true hinit _

theorem masterInterrupt_of_timeout (htimeout : s.inputs.intTimeout = true) :
    masterInterrupt s = masterEnd (s.emit .mIclrTimeout) .timeout := if_pos htimeout

theorem masterInterrupt_of_arbitration (htimeout : s.inputs.intTimeout = false) (harb : s.inputs.errArb = true) :
    masterInterrupt s = masterEnd (s.emit .mIclrData) .arbitrationLost := by
  rw [masterInterrupt, htimeout, if_neg Bool.false_ne_true, if_pos harb]

theorem masterInterrupt_of_nack (htimeout : s.inputs.intTimeout = false) (harb : s.inputs.errArb = false)
    (hnack : s.inputs.errAddrNack = true ∨ s.inputs.errDataNack = true) :
    masterInterrupt s = masterNack (s.emit .mIclrData) := by
  rw [masterInterrupt, htimeout, if_neg Bool.false_ne_true, harb, if_neg Bool.false_ne_true,
    if_pos (Bool.or_eq_true_iff.mpr hnack)]

/-- The NACK path as one record: a busy bus gets an error stop, a free one clears TIP (R214). -/
theorem masterNack_eq (s : State) : masterNack s = .next { s with
    masterCursor := .idle, flags := { s.flags with tip := if s.inputs.busBusy = true then s.flags.tip else false },
    trace := if s.inputs.busBusy = true then s.trace ++ [.mCtl .errorStop] else s.trace,
    result := ⟨false, if s.inputs.errAddrNack = true then .addressAckError else .dataAckError, 0#8⟩ } := by
  rw [masterNack]
  cases s.inputs.busBusy <;> rfl

/-! ## The dispatch (R215) -/

/-- The handler of each cursor; the codes without one share the default branch (R215, R218). -/
def Cursor.handler : Cursor → State → Out
  | .idle => masterIdle
  | .writeBlockSize => masterWriteBlockSize
  | .writeNext => masterWriteNext
  | .writeFinal => masterWriteFinal
  | .readOne | .readFirst => masterReadFirst
  | .readBlockSize => masterReadBlockSize
  | .readNext => masterReadNext
  | .readFinal => masterReadFinal
  | .readWait => masterReadWait
  | .readErrorStop => masterReadErrorStop
  | .slavePostCommand | .writeDone | .readPec | .readDone | .unused => masterDefault

theorem masterDispatch_eq_handler (s : State) : masterDispatch s = s.masterCursor.handler s := by
  unfold masterDispatch
  cases s.masterCursor <;> rfl

/-- Without an error input MINTP clears the data interrupt and runs the handler of the cursor. -/
theorem mintp_at {c : Cursor} (hinit : s.inited = true) (herr : s.inputs.noMasterError = true)
    (hcur : s.masterCursor = c) : exec .mintp s = c.handler (s.emit .mIclrData) := by
  rw [mintp_of_noMasterError hinit herr, masterDispatch_eq_handler, State.emit_masterCursor, hcur]

theorem Cursor.handler_of_unhandled {c : Cursor} (h : c.masterHandled = false) : c.handler = masterDefault := by
  cases c
  case slavePostCommand | writeDone | readPec | readDone | unused => rfl
  all_goals cases h

/-! ## The ways a handler ends (R211, R227) -/

/-- Actions appended after an emitted one: a handler's trace, said from the state before it. -/
theorem State.emit_trace_append (s : State) (a : Action) (acts : List Action) :
    (s.emit a).trace ++ acts = s.trace ++ a :: acts := List.append_assoc _ _ _

theorem masterEnd_eq (s : State) (st : Status) : masterEnd s st = .next { s with
    masterCursor := .idle, flags := { s.flags with tip := false }, result := ⟨false, st, 0#8⟩ } := rfl

/-- The transmit overrun as one record. -/
theorem txOverrun_eq (s : State) : txOverrun s = .next { s with
    masterCursor := .idle, flags := { s.flags with tip := false }, trace := s.trace ++ [.mCtl .errorStop],
    result := ⟨false, .dataSizeError, 0#8⟩ } := rfl

/-- The receive overrun as one record: TIP is kept. -/
theorem rxOverrun_eq (s : State) : rxOverrun s = .next { s with
    masterCursor := .readErrorStop, trace := s.trace ++ [.mGet, .mCtl .recvFinish],
    result := ⟨false, .dataSizeError, 0#8⟩ } := by
  rw [← State.emit_trace_append]
  rfl

/-! ## Sending (R216, R220 to R222) -/

/-- The wire bytes left once the byte due is handed out (R216). -/
theorem txRem_after_put (hlt : s.txIndex < s.txSize) : txRem { s with txIndex := s.txIndex + 1#8 } =
    (s.txSize.toNat - (s.txIndex.toNat + 1)) + if s.flags.pec = true ∧ s.flags.pc = false then 1 else 0 := by
  simp [txRem, txLeft, txpec1, toNat_succ_of_lt hlt]

/-- Where `WriteFinal` needs a payload byte: without PEC, and in a process call with or without it (R221). -/
theorem payloadDue_iff (f : Flags) : ¬(f.pec && !f.pc) = true ↔ f.pec = false ∨ f.pc = true := by
  cases f.pec <;> simp

theorem masterWriteNext_of_full (hfull : s.txSize ≤ s.txIndex) : masterWriteNext s = txOverrun s := if_pos hfull

theorem masterWriteFinal_of_full (hdue : s.flags.pec = false ∨ s.flags.pc = true) (hfull : s.txSize ≤ s.txIndex) :
    masterWriteFinal s = txOverrun s := by
  rw [masterWriteFinal, if_neg ((payloadDue_iff _).mpr hdue), if_pos hfull]

theorem masterWriteFinal_of_byte {b : Byte} (hdue : s.flags.pec = false ∨ s.flags.pc = true)
    (hlt : s.txIndex < s.txSize) (hread : s.txbuf.read s.txIndex.toNat = some b) :
    masterWriteFinal s = masterWriteEnd ((State.emit { s with txIndex := s.txIndex + 1#8 } (.mPut b)).fold b) := by
  rw [masterWriteFinal, if_neg ((payloadDue_iff _).mpr hdue), if_neg (BitVec.not_le.mpr hlt), withNextTx_of_some hread]

/-- A process call holds the bus and turns round (R222). -/
theorem masterWriteEnd_of_call (hpc : s.flags.pc = true) : masterWriteEnd s = .next { s with
    masterCursor := .readFirst, slaveCursor := turnaroundCursor, trace := s.trace ++ [.mCtl .sendCont],
    result := ⟨false, .ok, 0#8⟩ } := if_pos hpc

/-- The last payload byte of a process call goes out, folded under PEC, and the bus is turned round (R221, R222). -/
theorem mintp_at_writeFinal_call {b : Byte} (hinit : s.inited = true) (herr : s.inputs.noMasterError = true)
    (hcur : s.masterCursor = .writeFinal) (hpc : s.flags.pc = true) (hlt : s.txIndex < s.txSize)
    (hread : s.txbuf.read s.txIndex.toNat = some b) : exec .mintp s = .next { s with
      txIndex := s.txIndex + 1#8,
      computedCrc := if s.flags.pec = true then crc8 s.computedCrc [b] else s.computedCrc,
      masterCursor := .readFirst, slaveCursor := turnaroundCursor,
      trace := s.trace ++ [.mIclrData, .mPut b, .mCtl .sendCont], result := ⟨false, .ok, 0#8⟩ } := by
  rw [mintp_at hinit herr hcur, Cursor.handler, masterWriteFinal_of_byte (s := s.emit _) (.inr hpc) hlt hread]
  refine Eq.trans (masterWriteEnd_of_call hpc) ?_
  rw [State.fold_trace, State.emit_trace_append, State.emit_trace_append]
  rfl

/-! ## Receiving (R216, R223 to R226, R228) -/

/-- `select_read` as one record. -/
theorem selectRead_eq (first : Bool) (r : Nat) (s : State) : selectRead first r s = { s with
    masterCursor := if r = 1 then .readWait else if r = 2 then .readFinal else .readNext,
    trace := s.trace ++ [.mCtl (if r = 1 then (if first = true then .singleReceive else .recvFinish)
      else if first = true then .recvStart else .recvCont)] } := by
  unfold selectRead
  split
  · rfl
  · split <;> rfl

theorem rxRem_eq (s : State) :
    rxRem s = (s.rxSize.toNat - s.rxIndex.toNat) + if s.flags.pec = true then 1 else 0 := rfl

/-- The wire bytes left once a byte is taken (R216). -/
theorem rxRem_masterTake (hlt : s.rxIndex < s.rxSize) : rxRem (masterTake s) =
    (s.rxSize.toNat - (s.rxIndex.toNat + 1)) + if s.flags.pec = true then 1 else 0 := by
  rw [← toNat_succ_of_lt hlt]
  rfl

/-- The read address goes out, and block mode or the wire bytes to come choose what is received (R223, R228). -/
theorem masterReadFirst_eq (s : State) : masterReadFirst s = .next { s with
    computedCrc := if s.flags.pec = true then crc8 s.computedCrc [addrByte s.targetAddress true] else s.computedCrc,
    masterCursor := if s.flags.blk = true then .readBlockSize
      else if rxRem s = 1 then .readWait else if rxRem s = 2 then .readFinal else .readNext,
    trace := s.trace ++ [.mAddr s.targetAddress true,
      .mCtl (if s.flags.blk = false ∧ rxRem s = 1 then .singleReceive else .recvStart)],
    result := ⟨false, .ok, 0#8⟩ } := by
  rw [masterReadFirst]
  cases hblk : s.flags.blk with
  | true =>
    rw [if_pos rfl, finish_eq, State.setMaster_trace, State.emit_trace, State.fold_trace, State.emit_trace_append]
    rfl
  | false =>
    rw [if_neg Bool.false_ne_true, selectRead_eq, State.fold_trace, State.emit_trace_append,
      if_congr (and_iff_right rfl) rfl rfl]
    rfl

/-- A size of 1 to 32 is adopted and folded, and the wire bytes to come choose what follows (R224, R228). -/
theorem masterReadBlockSize_of_ok (hok : blockSizeOk s.inputs.data = true) :
    masterReadBlockSize s = .next { s with
      rxSize := s.inputs.data,
      computedCrc := if s.flags.pec = true then crc8 s.computedCrc [s.inputs.data] else s.computedCrc,
      masterCursor := if s.inputs.data.toNat + pec1 s = 1 then .readWait
        else if s.inputs.data.toNat + pec1 s = 2 then .readFinal else .readNext,
      trace := s.trace ++ [.mGet, .mCtl (if s.inputs.data.toNat + pec1 s = 1 then .recvFinish else .recvCont)],
      result := ⟨false, .ok, 0#8⟩ } := by
  rw [masterReadBlockSize, if_pos hok, selectRead_eq, ← State.emit_trace_append s .mGet]
  rfl

/-- Any other size is kept in `rx_size`, and the read is given up (R224). -/
theorem masterReadBlockSize_of_bad (hbad : blockSizeOk s.inputs.data = false) :
    masterReadBlockSize s = .next { s with
      rxSize := s.inputs.data, masterCursor := .readErrorStop, trace := s.trace ++ [.mGet, .mCtl .recvFinish],
      result := ⟨false, .dataSizeError, 0#8⟩ } := by
  rw [masterReadBlockSize, if_neg (Bool.eq_false_iff.mp hbad)]
  rw [← State.emit_trace_append]
  rfl

theorem masterReadNext_of_full (hfull : s.rxSize ≤ s.rxIndex) : masterReadNext s = rxOverrun s := if_pos hfull

theorem masterReadFinal_of_full (hfull : s.rxSize ≤ s.rxIndex) : masterReadFinal s = rxOverrun s := if_pos hfull

/-- The byte is stored, and with two wire bytes to come `ReadFinal` is next (R225). -/
theorem masterReadNext_of_room (hcur : s.masterCursor = .readNext) (hlt : s.rxIndex < s.rxSize) :
    masterReadNext s = .next { s with
      rxbuf := s.rxbuf.write s.rxIndex.toNat s.inputs.data, rxIndex := s.rxIndex + 1#8,
      computedCrc := if s.flags.pec = true then crc8 s.computedCrc [s.inputs.data] else s.computedCrc,
      masterCursor := if rxRem (masterTake s) = 2 then .readFinal else .readNext,
      trace := s.trace ++ [.mGet, .mCtl .recvCont], result := ⟨false, .ok, 0#8⟩ } := by
  simp only [masterReadNext, if_neg (BitVec.not_le.mpr hlt), ite_setMaster]
  rw [← State.emit_trace_append, ← hcur]
  rfl

/-- The byte is stored, and one wire byte is still to come (R226). -/
theorem masterReadFinal_of_room (hlt : s.rxIndex < s.rxSize) : masterReadFinal s = .next { s with
    rxbuf := s.rxbuf.write s.rxIndex.toNat s.inputs.data, rxIndex := s.rxIndex + 1#8,
    computedCrc := if s.flags.pec = true then crc8 s.computedCrc [s.inputs.data] else s.computedCrc,
    masterCursor := .readWait, trace := s.trace ++ [.mGet, .mCtl .recvFinish], result := ⟨false, .ok, 0#8⟩ } := by
  rw [masterReadFinal, if_neg (BitVec.not_le.mpr hlt)]
  rw [← State.emit_trace_append]
  rfl

/-! ## The end of a read (R229) -/

theorem masterReadWait_of_pec (hpec : s.flags.pec = true) : masterReadWait s =
    masterEnd { s.emit .mGet with receivedCrc := s.inputs.data }
      (if s.inputs.data = s.computedCrc then .ok else .pecError) := if_pos hpec

theorem masterReadWait_of_full (hpec : s.flags.pec = false) (hfull : s.rxSize ≤ s.rxIndex) :
    masterReadWait s = masterEnd (s.emit .mGet) .dataSizeError := by
  rw [masterReadWait, hpec, if_neg Bool.false_ne_true, if_pos hfull]

theorem masterReadWait_of_room (hpec : s.flags.pec = false) (hlt : s.rxIndex < s.rxSize) :
    masterReadWait s = masterEnd ((s.emit .mGet).storeRx s.inputs.data) .ok := by
  rw [masterReadWait, hpec, if_neg Bool.false_ne_true, if_neg (BitVec.not_le.mpr hlt)]

end

/-! ## The obligations -/

/-- Settles O41: from a cursor with a handler no path of MINTP reaches the default branch (R218). -/
theorem masterErrorIsUnreachable : Obligations.MasterErrorIsUnreachable := by
  intro s t hgood hinit h
  have hrun : masterInterrupt s = .next t := (mintp_of_inited hinit).symm.trans h
  exact ((masterInterrupt_effect s t hrun).handled hgood.master_handled).2

/-- Settles O39, path by path in the order of R210. -/
theorem masterErrorPaths : Obligations.MasterErrorPaths := by
  intro s hinit
  rw [mintp_of_inited hinit]
  refine ⟨fun htimeout => ?timeout, fun htimeout harb => ?arbitration, fun htimeout harb hnack => ?nack⟩
  case timeout => rw [masterInterrupt_of_timeout htimeout, masterEnd_eq]; rfl
  case arbitration => rw [masterInterrupt_of_arbitration htimeout harb, masterEnd_eq]; rfl
  case nack =>
    rw [masterInterrupt_of_nack htimeout harb hnack, masterNack_eq]
    rw [State.emit_trace_append, State.emit_inputs]
    cases s.inputs.busBusy <;> rfl

/-- Settles O40: each of these handlers only ends the transaction. -/
theorem masterIdleDefaultAndErrorStop : Obligations.MasterIdleDefaultAndErrorStop := by
  intro s hinit herr
  refine ⟨mintp_at_idle hinit herr, fun hcur => ?default, fun hcur => ?errorStop⟩
  case default =>
    have hunhandled : ∀ c ∈ [Cursor.slavePostCommand, .writeDone, .readPec, .readDone, .unused],
        c.masterHandled = false := by decide
    rw [mintp_at hinit herr rfl, Cursor.handler_of_unhandled (hunhandled _ hcur), masterDefault, masterEnd_eq]
    rfl
  case errorStop =>
    rw [mintp_at hinit herr hcur, Cursor.handler, masterReadErrorStop, masterEnd_eq, ← State.emit_trace_append]
    rfl

/-- Settles O42, by the handlers of `WriteBlockSize` and `WriteNext`. -/
theorem masterSendsSizeAndPayload : Obligations.MasterSendsSizeAndPayload := by
  intro s hinit herr
  refine ⟨mintp_at_writeBlockSize hinit herr, fun b hcur hlt hread => ?_⟩
  rw [mintp_at_writeNext hinit herr hcur hlt hread, txRem_after_put hlt]

/-- Settles O43: the three ways out of `WriteFinal`. -/
theorem masterFinishesOrTurnsAround : Obligations.MasterFinishesOrTurnsAround :=
  fun _ hinit herr hcur =>
    ⟨mintp_at_writeFinal_pec hinit herr hcur,
      fun _ hpec hpc hlt hread => mintp_at_writeFinal_byte hinit herr hcur hpec hpc hlt hread,
      fun _ hpc hlt hread => mintp_at_writeFinal_call hinit herr hcur hpc hlt hread⟩

/-- Settles O44: the bound is checked before a buffer is touched, in both directions. -/
theorem masterOverruns : Obligations.MasterOverruns := by
  intro s hinit herr
  refine ⟨fun hfull hcur => ?send, fun hfull hcur => ?receive⟩
  case send =>
    have hrun : exec .mintp s = txOverrun (s.emit .mIclrData) := by
      rcases hcur with hcur | ⟨hcur, hdue⟩
      · exact (mintp_at hinit herr hcur).trans (masterWriteNext_of_full (s := s.emit _) hfull)
      · exact (mintp_at hinit herr hcur).trans (masterWriteFinal_of_full (s := s.emit _) hdue hfull)
    rw [hrun, txOverrun_eq, State.emit_trace_append]
    rfl
  case receive =>
    have hrun : exec .mintp s = rxOverrun (s.emit .mIclrData) := by
      rcases hcur with hcur | hcur
      · exact (mintp_at hinit herr hcur).trans (masterReadNext_of_full (s := s.emit _) hfull)
      · exact (mintp_at hinit herr hcur).trans (masterReadFinal_of_full (s := s.emit _) hfull)
    rw [hrun, rxOverrun_eq, State.emit_trace_append]
    rfl

/-- Settles O45: `ReadOne` and `ReadFirst` share their handler. -/
theorem masterTurnsToRead : Obligations.MasterTurnsToRead := by
  rintro s r hinit herr hcur rfl
  have hrun : exec .mintp s = masterReadFirst (s.emit .mIclrData) := by
    rcases hcur with hcur | hcur <;> exact mintp_at hinit herr hcur
  rw [hrun, masterReadFirst_eq, rxRem_eq, State.emit_trace_append]
  rfl

/-- Settles O46: the size check of R224 is the block protocols' own (R172). -/
theorem masterReadsBlockSize : Obligations.MasterReadsBlockSize := by
  rintro s n r hinit herr hcur rfl rfl
  rw [mintp_at hinit herr hcur, Cursor.handler]
  refine ⟨fun hsize => ?bad, fun hpos hle => ?ok⟩
  case bad =>
    rw [masterReadBlockSize_of_bad (s := s.emit _) ((blockSizeOk_false _).mpr hsize), State.emit_trace_append]
    rfl
  case ok =>
    rw [masterReadBlockSize_of_ok (s := s.emit _) ((blockSizeOk_iff _).mpr ⟨hpos, hle⟩), State.emit_trace_append]
    rfl

/-- Settles O47: both handlers store the byte; they differ in what follows it. -/
theorem masterStoresReceivedBytes : Obligations.MasterStoresReceivedBytes := by
  intro s hinit herr hlt hcur
  refine ⟨s.rxbuf.write s.rxIndex.toNat s.inputs.data, ?_, fun a => Memory.read_write _ _ _ _⟩
  rcases hcur with hcur | hcur <;> rw [mintp_at hinit herr hcur, Cursor.handler]
  · rw [masterReadNext_of_room (s := s.emit _) hcur hlt, rxRem_masterTake (s := s.emit _) hlt,
      State.emit_trace_append, hcur]
    rfl
  · rw [masterReadFinal_of_room (s := s.emit _) hlt, State.emit_trace_append, hcur]
    rfl

/-- Settles O48: the three paths of `ReadWait` end alike. -/
theorem masterEndsTheRead : Obligations.MasterEndsTheRead := by
  intro s hinit herr hcur
  rw [mintp_at hinit herr hcur, Cursor.handler]
  refine ⟨fun hpec => ?pec, fun hpec hfull => ?full, fun hpec hlt => ?room⟩
  case pec =>
    rw [masterReadWait_of_pec (s := s.emit _) hpec, masterEnd_eq, ← State.emit_trace_append]
    rfl
  case full =>
    rw [masterReadWait_of_full (s := s.emit _) hpec hfull, masterEnd_eq, ← State.emit_trace_append]
    rfl
  case room =>
    refine ⟨s.rxbuf.write s.rxIndex.toNat s.inputs.data, ?_, fun a => Memory.read_write _ _ _ _⟩
    rw [masterReadWait_of_room (s := s.emit _) hpec hlt, masterEnd_eq, ← State.emit_trace_append]
    rfl

end Sys2Proof.Machine
end

section
/-! The slave's transfer init, its sizes and its own addresses (O20); SINTP at STOP, at the first byte and at a transmit
request, and SDSEND, each with its whole next state (O52, O53, O55, O56). -/

namespace Sys2Proof.Machine

section
variable {s : State}

/-! ## SINTP, by the interrupts it samples (R250, R252, R255) -/

theorem sintp_of_inited (hinit : s.inited = true) : exec .sintp s = slaveInterrupt s := whenInited_of_true hinit _

/-- Without STOP and DATA only START is left to clear (R250, R251). -/
theorem sintp_of_neither (hinit : s.inited = true) (hstop : s.inputs.intStop = false) (hdata : s.inputs.intData = false) :
    exec .sintp s = .next { s with trace := s.trace ++ startClear s, result := ⟨false, .ok, 0#8⟩ } := by
  rw [sintp_of_inited hinit, slaveInterrupt_eq, hstop, hdata, if_neg Bool.false_ne_true, if_neg Bool.false_ne_true]
  rfl

/-- STOP goes before DATA (R252). -/
theorem sintp_of_stop (hinit : s.inited = true) (hstop : s.inputs.intStop = true) :
    exec .sintp s = slaveStop { s with trace := s.trace ++ (startClear s ++ [.sIclrStop]) } := by
  rw [sintp_of_inited hinit, slaveInterrupt_eq, if_pos hstop]

theorem sintp_of_data (hinit : s.inited = true) (hstop : s.inputs.intStop = false) (hdata : s.inputs.intData = true) :
    exec .sintp s = slaveData s.dataCleared := by
  rw [sintp_of_inited hinit, slaveInterrupt_eq, hstop, if_neg Bool.false_ne_true, if_pos hdata]
  rfl

/-! ## STOP and its outcomes (R252 to R254) -/

theorem slaveStop_of_ordinary (hquick : s.inputs.stQcmd = false) : slaveStop s = .next { s with
    slaveCursor := .idle, flags := { s.flags with tip := false }, result := ⟨false, .transferComplete, 0#8⟩ } := by
  rw [slaveStop, hquick, if_neg Bool.false_ne_true]
  rfl

theorem exchanged_iff (s : State) :
    exchanged s = true ↔ s.rxIndex ≠ 0#8 ∨ s.txIndex ≠ 0#8 ∨ s.slaveCursor ≠ .idle := by
  simp [exchanged, or_assoc]

theorem slaveStop_of_exchanged (hquick : s.inputs.stQcmd = true) (h : exchanged s = true) : slaveStop s = .next { s with
    flags := { s.flags with tip := false }, result := ⟨false, .slaveError, 0#8⟩ } := by
  rw [slaveStop, if_pos hquick, if_pos h]
  rfl

/-- A Quick Command with nothing exchanged reports its bit. -/
theorem slaveStop_of_quick (hquick : s.inputs.stQcmd = true) (h : exchanged s ≠ true) : slaveStop s = .next { s with
    flags := { s.flags with tip := false },
    result := ⟨false, if s.inputs.stQcmdRw = true then .quickCommandOne else .quickCommandZero, 0#8⟩ } := by
  rw [slaveStop, if_pos hquick, if_neg h]
  rfl

/-! ## The first received byte (R261, R262) -/

/-- The end of the first-byte handler: the accumulator is seeded, TIP is set. -/
theorem slaveFirstEnd_eq (s : State) (b : Byte) : slaveFirstEnd s b = .next { s with
    computedCrc := if s.flags.pec = true then crc8 (crc8 0#8 [addrByte s.ownAddress false]) [b] else s.computedCrc,
    slaveCursor := .slavePostCommand, flags := { s.flags with tip := true }, result := ⟨false, .firstByte, 0#8⟩ } := rfl

/-- The byte is the command; the seed takes the address just captured. -/
theorem slaveFirstByte_of_command (hraw : s.flags.raw = false) : slaveFirstByte s =
    slaveFirstEnd { s.captureOwn.emit .sGet with currentCommand := s.inputs.data } s.inputs.data := by
  rw [slaveFirstByte, hraw, if_neg Bool.false_ne_true]

theorem slaveFirstByte_of_raw (hraw : s.flags.raw = true) (hroom : s.rxIndex < s.rxSize) : slaveFirstByte s =
    slaveFirstEnd ((s.captureOwn.emit .sGet).storeRx s.inputs.data) s.inputs.data := by
  rw [slaveFirstByte, if_pos hraw, if_neg (BitVec.not_le.mpr hroom)]

theorem slaveFirstByte_of_rawFull (hraw : s.flags.raw = true) (hfull : s.rxSize ≤ s.rxIndex) :
    slaveFirstByte s = .fault (.rawStoreBeyondCapacity s.rxIndex.toNat) := by
  rw [slaveFirstByte, if_pos hraw, if_pos hfull]

/-! ## The transmitted byte (R259, R270 to R274) -/

/-- A byte still due is a byte declared. -/
theorem txSize_ne_zero (hlt : s.txIndex < s.txSize) : s.txSize ≠ 0#8 := fun h =>
  BitVec.not_lt_zero (h ▸ hlt)

/-- The wire bytes left once the byte due is handed out (R259). -/
theorem txLeft_after_put (hlt : s.txIndex < s.txSize) :
    txLeft { s with txIndex := s.txIndex + 1#8 } + pec1 s = txLeft s + pec1 s - 1 := by
  have hpos : 0 < txLeft s := Nat.sub_pos_of_lt hlt
  have hstep : txLeft { s with txIndex := s.txIndex + 1#8 } = txLeft s - 1 := by
    rw [txLeft, toNat_succ_of_lt hlt, Nat.sub_add_eq, txLeft]
  omega

/-- Two bytes folded one after the other are folded as one sequence (R112). -/
theorem State.fold_fold (s : State) (a b : Byte) : (s.fold a).fold b =
    { s with computedCrc := if s.flags.pec = true then crc8 s.computedCrc [a, b] else s.computedCrc } := by
  cases hpec : s.flags.pec <;> simp [State.fold, hpec, crc8]

/-- The end of `first_tx`: address and byte are folded, TIP is set (R271). -/
theorem slaveFirstTxEnd_eq (s : State) (b : Byte) : slaveFirstTxEnd s b = .next { s with
    computedCrc := if s.flags.pec = true then crc8 s.computedCrc [addrByte s.ownAddress true, b] else s.computedCrc,
    slaveCursor := cursorForRemaining (txLeft s + pec1 s), flags := { s.flags with tip := true },
    trace := s.trace ++ [.sPut b], result := ⟨false, .ok, 0#8⟩ } := by
  rw [slaveFirstTxEnd, State.fold_fold]
  rfl

theorem slaveFirstTx_of_block (hblk : s.flags.blk = true) : slaveFirstTx s = slaveFirstTxEnd s s.txSize := if_pos hblk

/-- The first payload byte of a direction (R271, R272). -/
theorem slaveFirstTx_of_byte {b : Byte} (hblk : s.flags.blk = false) (hlt : s.txIndex < s.txSize)
    (hread : s.txbuf.read s.txIndex.toNat = some b) : slaveFirstTx s = .next { s with
      txIndex := s.txIndex + 1#8,
      computedCrc := if s.flags.pec = true then crc8 s.computedCrc [addrByte s.ownAddress true, b] else s.computedCrc,
      slaveCursor := cursorForRemaining (txLeft s + pec1 s - 1), flags := { s.flags with tip := true },
      trace := s.trace ++ [.sPut b], result := ⟨false, .ok, 0#8⟩ } := by
  rw [slaveFirstTx, hblk, if_neg Bool.false_ne_true, if_pos hlt, withNextTx_of_some hread, slaveFirstTxEnd_eq,
    ← txLeft_after_put hlt]
  rfl

theorem slaveFirstTx_of_filler (hblk : s.flags.blk = false) (hfull : s.txSize ≤ s.txIndex) :
    slaveFirstTx s = slaveFirstTxEnd s filler := by
  rw [slaveFirstTx, hblk, if_neg Bool.false_ne_true, if_neg (BitVec.not_lt.mpr hfull)]

/-- A further payload byte (R273). -/
theorem slaveNextTx_of_byte {b : Byte} (hlt : s.txIndex < s.txSize) (hread : s.txbuf.read s.txIndex.toNat = some b) :
    slaveNextTx s = .next { s with
      txIndex := s.txIndex + 1#8,
      computedCrc := if s.flags.pec = true then crc8 s.computedCrc [b] else s.computedCrc,
      slaveCursor := cursorForRemaining (txLeft s + pec1 s - 1), trace := s.trace ++ [.sPut b],
      result := ⟨false, .ok, 0#8⟩ } := by
  rw [slaveNextTx, if_pos hlt, withNextTx_of_some hread, ← txLeft_after_put hlt]
  rfl

/-- After the payload the PEC byte goes out, or without PEC the filler (R273). -/
theorem slaveNextTx_of_end (hfull : s.txSize ≤ s.txIndex) : slaveNextTx s = .next { s with
    slaveCursor := .writeDone, trace := s.trace ++ [.sPut (if s.flags.pec = true then s.computedCrc else filler)],
    result := ⟨false, .ok, 0#8⟩ } := by
  rw [slaveNextTx, if_neg (BitVec.not_lt.mpr hfull)]
  cases s.flags.pec <;> rfl

/-! ## `slave_tx`, by the cursor (R269, R270, R274) -/

theorem beginsDirection_iff (c : Cursor) :
    beginsDirection c = true ↔ c = .idle ∨ c = .slavePostCommand ∨ c = .readNext ∨ c = .readDone := by
  simp [beginsDirection, or_assoc]

theorem slaveTx_of_unset (hunset : s.txSize = 0#8) :
    slaveTx s = .next { s with result := ⟨false, .slaveNotReady, 0#8⟩ } := by
  rw [slaveTx, if_pos hunset]
  rfl

theorem slaveTx_of_first (hset : s.txSize ≠ 0#8) (hcur : beginsDirection s.slaveCursor = true) :
    slaveTx s = slaveFirstTx s := by
  rw [slaveTx, if_neg hset]
  rcases (beginsDirection_iff _).mp hcur with h | h | h | h <;> rw [h]

theorem slaveTx_of_next (hset : s.txSize ≠ 0#8) (hcur : s.slaveCursor = .writeNext ∨ s.slaveCursor = .writeFinal) :
    slaveTx s = slaveNextTx s := by
  rw [slaveTx, if_neg hset]
  rcases hcur with h | h <;> rw [h]

theorem slaveTx_of_done (hset : s.txSize ≠ 0#8) (hcur : s.slaveCursor = .writeDone) :
    slaveTx s = finish (s.emit (.sPut filler)) .ok 0#8 := by
  rw [slaveTx, if_neg hset, hcur]

/-- A cursor outside the transmit states gets the filler and an error (R274). -/
theorem slaveTx_of_unexpected (hset : s.txSize ≠ 0#8) (hfirst : beginsDirection s.slaveCursor ≠ true)
    (hnext : s.slaveCursor ≠ .writeNext) (hfinal : s.slaveCursor ≠ .writeFinal) (hdone : s.slaveCursor ≠ .writeDone) :
    slaveTx s = finish (s.emit (.sPut filler)) .slaveError 0#8 := by
  rw [slaveTx, if_neg hset]
  cases hcur : s.slaveCursor
  case idle | slavePostCommand | readNext | readDone => exact absurd (congrArg beginsDirection hcur) hfirst
  case writeNext => exact absurd hcur hnext
  case writeFinal => exact absurd hcur hfinal
  case writeDone => exact absurd hcur hdone
  all_goals rfl

/-- With neither receive status the DATA interrupt is a transmit request or nothing (R255). -/
theorem slaveData_of_transmit (hfbr : s.inputs.stFbr = false) (hrreq : s.inputs.stRreq = false) : slaveData s =
    if s.inputs.stTreq = true then slaveTransmit s else finish s .ok 0#8 := by
  rw [slaveData, hfbr, hrreq, if_neg Bool.false_ne_true, if_neg Bool.false_ne_true]

theorem sdsend_of_inited (hinit : s.inited = true) : exec .sdsend s = slaveTx s := whenInited_of_true hinit _

end

/-! ## The obligations -/

/-- Settles O20: each setter ends at once on an initialised block. -/
theorem slaveBufferAndAddressSetters : Obligations.SlaveBufferAndAddressSetters :=
  ⟨rfl, fun s hinit =>
    ⟨whenInited_finish hinit _ .ok 0#8,
      fun n => whenInited_finish hinit { s with txSize := n, txIndex := 0#8 } .ok 0#8,
      fun n => whenInited_finish hinit { s with rxSize := n, rxIndex := 0#8 } .ok 0#8,
      fun a => whenInited_finish hinit ((s.setOwn a false).emit (.sAddr false a)) .ok 0#8,
      fun a => whenInited_finish hinit ((s.setOwn a true).emit (.sAddr true a)) .ok 0#8⟩⟩

/-- Settles O52: `exchanged` tells the two Quick Command clauses apart. -/
theorem slaveStopAndStart : Obligations.SlaveStopAndStart := by
  rintro s _ hinit rfl
  refine ⟨sintp_of_neither hinit, fun hstop hquick => ?ordinary, fun hstop hquick hex => ?exchanged,
    fun hstop hquick hrx htx hcur => ?quick⟩
  all_goals rw [sintp_of_stop hinit hstop]
  case ordinary => exact slaveStop_of_ordinary hquick
  case exchanged => exact slaveStop_of_exchanged hquick ((exchanged_iff s).mpr hex)
  case quick =>
    have hno : exchanged s ≠ true := by
      rw [ne_eq, exchanged_iff]
      simp [hrx, htx, hcur]
    exact slaveStop_of_quick hquick hno

/-- Settles O53: the handler runs on the state with the interrupts cleared, whatever the cursor. -/
theorem slaveTakesFirstByte : Obligations.SlaveTakesFirstByte := by
  rintro s _ _ hinit hstop hdata hfbr rfl rfl
  have hrun : exec .sintp s = slaveFirstByte s.dataCleared :=
    (sintp_of_data hinit hstop hdata).trans (if_pos hfbr)
  have htrace : s.trace ++ ((if s.inputs.intStart = true then [.sIclrStart] else []) ++ [.sIclrData, .sGet]) =
      (s.dataCleared.emit .sGet).trace := by
    simp [State.dataCleared, startClear]
  rw [hrun, htrace]
  refine ⟨fun hraw => ?command, fun hraw hroom => ?raw, fun hraw hfull => ?full⟩
  case command => rw [slaveFirstByte_of_command (s := s.dataCleared) hraw, slaveFirstEnd_eq]; rfl
  case raw =>
    refine ⟨s.rxbuf.write s.rxIndex.toNat s.inputs.data, ?_, fun _ => Memory.read_write _ _ _ _⟩
    rw [slaveFirstByte_of_raw (s := s.dataCleared) hraw hroom, slaveFirstEnd_eq]
    rfl
  case full => exact slaveFirstByte_of_rawFull (s := s.dataCleared) hraw hfull

/-- Settles O55: SDSEND is `slave_tx`, and each clause is one path of its handlers. -/
theorem slaveSendsAByte : Obligations.SlaveSendsAByte := by
  rintro s _ _ hinit rfl rfl
  have begins : s.slaveCursor ∈ [.idle, .slavePostCommand, .readNext, .readDone] ↔
      beginsDirection s.slaveCursor = true := by
    rw [beginsDirection_iff]
    simp
  rw [sdsend_of_inited hinit, begins]
  refine ⟨slaveTx_of_unset, fun hset hcur hblk => ?size, fun b hcur hblk hlt hread => ?first,
    fun hset hcur hblk hfull => ?filler, fun b hcur hlt hread => ?next, fun hset hcur hfull => ?final,
    slaveTx_of_done, slaveTx_of_unexpected⟩
  case size => rw [slaveTx_of_first hset hcur, slaveFirstTx_of_block hblk, slaveFirstTxEnd_eq]; rfl
  case first => rw [slaveTx_of_first (txSize_ne_zero hlt) hcur, slaveFirstTx_of_byte hblk hlt hread]; rfl
  case filler => rw [slaveTx_of_first hset hcur, slaveFirstTx_of_filler hblk hfull, slaveFirstTxEnd_eq]; rfl
  case next => rw [slaveTx_of_next (txSize_ne_zero hlt) hcur, slaveNextTx_of_byte hlt hread]; rfl
  case final => rw [slaveTx_of_next hset hcur, slaveNextTx_of_end hfull]; rfl

/-- Settles O56: both sides are `slave_tx` of the state with the interrupts cleared, the matched address captured
where R269 says. -/
theorem slaveTransmitRequest : Obligations.SlaveTransmitRequest := by
  intro s s1 hinit hstop hdata hfbr hrreq hs1
  obtain rfl : s1 = s.dataCleared := by
    rw [hs1, State.dataCleared, startClear]
    split <;> rfl
  rw [sintp_of_data hinit hstop hdata, slaveData_of_transmit (s := s.dataCleared) hfbr hrreq]
  refine ⟨fun htreq => ?none, fun htreq hcur => ?first, fun htreq hidle hpost hnext hdone => ?later⟩
  case none => exact if_neg (Bool.eq_false_iff.mp htreq)
  case first =>
    have hbegins : beginsDirection s.dataCleared.slaveCursor = true := (beginsDirection_iff _).mpr hcur
    refine (if_pos htreq).trans ?_
    rw [slaveTransmit, if_pos hbegins]
    exact (sdsend_of_inited (s := s.dataCleared.captureOwn) hinit).symm
  case later =>
    have hlater : beginsDirection s.dataCleared.slaveCursor ≠ true := fun h => by
      rcases (beginsDirection_iff _).mp h with h | h | h | h
      exacts [hidle h, hpost h, hnext h, hdone h]
    refine (if_pos htreq).trans ?_
    rw [slaveTransmit, if_neg hlater]
    exact (sdsend_of_inited (s := s.dataCleared) hinit).symm

end Sys2Proof.Machine
end

section
/-! The UDID packet, the two commands that move it, and the ARP helpers (O57 to O60). -/

namespace Sys2Proof.Machine

/-! ## The bytes of a register (R300, R301) -/

theorem byteOf_self (b : Byte) : byteOf 8 0 b = b := BitVec.extractLsb'_eq_self

/-- Byte 0 of a value with a byte appended is that byte. -/
theorem byteOf_zero_append {w : Nat} (v : BitVec w) (b : Byte) : byteOf (w + 8) 0 (v ++ b) = b :=
  BitVec.extractLsb'_append_eq_right

/-- The bytes above an appended one are the value's own. -/
theorem byteOf_succ_append {w : Nat} (k : Nat) (v : BitVec w) (b : Byte) :
    byteOf (w + 8) (k + 1) (v ++ b) = byteOf w k v := by
  rw [byteOf, byteOf, BitVec.extractLsb'_append_eq_of_le (by omega), Nat.mul_succ, Nat.add_sub_cancel]

theorem byteOf_of_append_16 (x y : Byte) : byteOf 16 1 (x ++ y) = x ∧ byteOf 16 0 (x ++ y) = y :=
  ⟨(byteOf_succ_append 0 x y).trans (byteOf_self x), byteOf_zero_append x y⟩

theorem byteOf_of_append_32 (x y z t : Byte) :
    byteOf 32 3 (x ++ y ++ z ++ t) = x ∧ byteOf 32 2 (x ++ y ++ z ++ t) = y ∧
      byteOf 32 1 (x ++ y ++ z ++ t) = z ∧ byteOf 32 0 (x ++ y ++ z ++ t) = t := by
  obtain ⟨hx, hy⟩ := byteOf_of_append_16 x y
  have above (k : Nat) : byteOf 32 (k + 2) (x ++ y ++ z ++ t) = byteOf 16 k (x ++ y) :=
    (byteOf_succ_append (k + 1) (x ++ y ++ z) t).trans (byteOf_succ_append k (x ++ y) z)
  exact ⟨(above 1).trans hx, (above 0).trans hy,
    (byteOf_succ_append 0 (x ++ y ++ z) t).trans (byteOf_zero_append (x ++ y) z), byteOf_zero_append (x ++ y ++ z) t⟩

theorem byteOf_append_16 (v : BitVec 16) : byteOf 16 1 v ++ byteOf 16 0 v = v :=
  BitVec.extractLsb'_append_extractLsb' (w := 8) (len := 8)

theorem byteOf_append_32 (v : BitVec 32) :
    byteOf 32 3 v ++ byteOf 32 2 v ++ byteOf 32 1 v ++ byteOf 32 0 v = v := by
  have hhigh : byteOf 32 3 v ++ byteOf 32 2 v = v.extractLsb' 16 16 :=
    BitVec.extractLsb'_append_extractLsb'_eq_extractLsb' rfl
  have htop : v.extractLsb' 16 16 ++ byteOf 32 1 v = v.extractLsb' 8 24 :=
    BitVec.extractLsb'_append_extractLsb'_eq_extractLsb' rfl
  rw [hhigh, htop]
  exact BitVec.extractLsb'_append_extractLsb' (w := 24) (len := 8)

/-- Bits taken from a part of a value are bits of the value. -/
theorem extractLsb'_of_part {w i n j m : Nat} (v : BitVec w) (h : j + m ≤ n) :
    (v.extractLsb' i n).extractLsb' j m = v.extractLsb' (i + j) m := by
  ext k hk
  have hin : j + k < n := by omega
  rw [BitVec.getElem_extractLsb', BitVec.getElem_extractLsb', BitVec.getLsbD_extractLsb', decide_eq_true hin,
    Bool.true_and, Nat.add_assoc]

/-! ## The packet (R300 to R302) -/

theorem udidDecode_encode (u : Udid) (a : Byte) : udidDecode (udidEncode u a) = (u, a) := by
  simp [udidDecode, udidEncode, byteOf_append_16, byteOf_append_32]

theorem udidEncode_decode {bytes : List Byte} (h : bytes.length = 17) :
    udidEncode (udidDecode bytes).1 (udidDecode bytes).2 = bytes := by
  match bytes, h with
  | [b0, b1, b2, b3, b4, b5, b6, b7, b8, b9, b10, b11, b12, b13, b14, b15, b16], _ =>
    simp [udidDecode, udidEncode, byteOf_of_append_16, byteOf_of_append_32]

/-- Each 16-bit field, and each half of the 32-bit one, stands at its place, most significant byte first (R300). -/
theorem udidEncode_field (u : Udid) (a : Byte) {k : Nat} {f : BitVec 16}
    (h : (k, f) ∈ [(2, u.vendor), (4, u.device), (6, u.iface), (8, u.subvendor), (10, u.subdevice),
      (12, u.vspec.extractLsb' 16 16), (14, u.vspec.extractLsb' 0 16)]) :
    (udidEncode u a)[k]? = some (f.extractLsb' 8 8) ∧ (udidEncode u a)[k + 1]? = some (f.extractLsb' 0 8) := by
  simp only [List.mem_cons, Prod.mk.injEq, List.not_mem_nil, or_false] at h
  rcases h with ⟨rfl, rfl⟩ | ⟨rfl, rfl⟩ | ⟨rfl, rfl⟩ | ⟨rfl, rfl⟩ | ⟨rfl, rfl⟩ | ⟨rfl, rfl⟩ | ⟨rfl, rfl⟩
  iterate 5 · exact ⟨rfl, rfl⟩
  all_goals
    rw [extractLsb'_of_part _ (by decide), extractLsb'_of_part _ (by decide)]
    exact ⟨rfl, rfl⟩

/-- Settles O57: `byteOf` and append undo each other, field by field (R302). -/
theorem udidPacketRoundTrips : Obligations.UdidPacketRoundTrips :=
  ⟨fun u a => ⟨udidEncode_length u a, udidDecode_encode u a⟩, fun _ => udidEncode_decode,
    fun u a => ⟨rfl, rfl, rfl, fun _ _ => udidEncode_field u a⟩⟩

/-! ## TXBUF with the packet, or with the zeros of ARPNOTIFY, in it (R303, R309, R310) -/

/-- The packet is read back at the bytes 0 to 16 (R303). -/
theorem read_packet (m : Memory) (u : Udid) (x : Byte) (a : Nat) :
    (m.writeBytes 0 (udidEncode u x)).read a = if a < 17 then (udidEncode u x)[a]? else m.read a := by
  split
  case isTrue hlt => rw [Memory.read_writeBytes, if_pos ⟨Nat.zero_le a, by rwa [udidEncode_length]⟩, Nat.sub_zero]
  case isFalse hge => exact read_packet_of_ge m u x (Nat.le_of_not_lt hge)

/-- The two zero bytes of ARPNOTIFY are read back at the bytes 0 and 1 (R310). -/
theorem read_zeros (m : Memory) (a : Nat) :
    ((m.write 0 0#8).write 1 0#8).read a = if a < 2 then some 0#8 else m.read a := by
  rw [Memory.read_write, Memory.read_write]
  match a with
  | 0 | 1 => rfl
  | a + 2 => simp

section
variable {s : State}

/-- With every UDID register written the packet goes to TXBUF and the command goes on (R69, R303). -/
theorem withUdidPacket_of_written (h : s.udidWritten.all = true) (x : Byte) (k : State → Out) :
    withUdidPacket s x k = k { s with txbuf := s.txbuf.writeBytes 0 (udidEncode s.udid x) } := if_pos h

/-! ## UDIDENC and UDIDDEC (R303, R304) -/

theorem udidenc_of_written (hinit : s.inited = true) (h : s.udidWritten.all = true) (x : Byte) :
    exec (.udidenc x) s =
      .next { s with txbuf := s.txbuf.writeBytes 0 (udidEncode s.udid x), result := ⟨false, .ok, 0#8⟩ } :=
  (whenInited_of_true hinit _).trans (withUdidPacket_of_written h x _)

theorem udiddec_of_bytes {bytes : List Byte} (hinit : s.inited = true) (hlen : bytes.length = 17)
    (hread : ∀ k, k < 17 → s.rxbuf.read k = bytes[k]?) : exec .udiddec s = udidLoad s bytes := by
  have hbytes : s.rxbuf.readBytes 0 udidWireLen = .ok bytes :=
    Memory.readBytes_ok.mpr ⟨hlen, fun k hk => by rw [Nat.zero_add, hread k hk]⟩
  rw [show exec .udiddec s = execUdiddec s from rfl, execUdiddec, whenInited_of_true hinit, hbytes]

/-! ## The helpers as starts (R305 to R311) -/

/-- A start of a good size always completes; with the peripheral free it opens its row's transaction and leaves TXBUF. -/
theorem start_answers (hinit : s.inited = true) {ok : Bool} (hok : ok = true) (r : StartRow) :
    ∃ t, whenInited s (startChecked s ok (arm s r)) = .next t ∧ (s.inputs.periphBusy = false →
      t.txbuf = s.txbuf ∧ t.flags.tip = true ∧ t.targetAddress = r.target ∧
        t.currentCommand = r.cmd.getD s.currentCommand) := by
  cases hbusy : s.inputs.periphBusy with
  | true => exact ⟨_, start_of_busy hinit hbusy _ _, fun hfree => nomatch hfree⟩
  | false => exact ⟨_, (start_of_free hinit hbusy hok _).trans (arm_eq s r), fun _ => ⟨rfl, rfl, rfl, rfl⟩⟩

/-- A command that does what the start of a row with a command byte does completes with that start's next state, in
which the row's transaction is open. -/
theorem same_start_answers {i j : Instr} {r : StartRow} {c : Byte} (hinit : s.inited = true) (hcmd : r.cmd = some c)
    (hij : exec i s = exec j s) (hj : exec j s = whenInited s (startChecked s true (arm s r))) :
    ∃ t, exec i s = .next t ∧ exec j s = .next t ∧
      (s.inputs.periphBusy = false → t.flags.tip = true ∧ t.targetAddress = r.target ∧ t.currentCommand = c) := by
  obtain ⟨t, ht, hopens⟩ := start_answers hinit rfl r
  refine ⟨t, hij.trans (hj.trans ht), hj.trans ht, fun hfree => ?_⟩
  obtain ⟨-, htip, htarget, hcommand⟩ := hopens hfree
  exact ⟨htip, htarget, by rw [hcommand, hcmd, Option.getD_some]⟩

theorem mblkwr_of_inited (hinit : s.inited = true) (a : BusAddr) (c n : Byte) :
    exec (.mblkwr a c n) s = startBlockWrite a c n s := whenInited_of_true hinit _

theorem mnotify_of_inited (hinit : s.inited = true) (c : Byte) : exec (.mnotify c) s = startNotify c s :=
  whenInited_of_true hinit _

/-- ARPASSIGN is MBLKWR of 17 bytes from the state with the packet in TXBUF (R309). -/
theorem arpassign_eq_mblkwr (hinit : s.inited = true) (hfree : s.inputs.periphBusy = false)
    (h : s.udidWritten.all = true) (x : Byte) : exec (.arpassign x) s =
      exec (.mblkwr s.arpParams.defaultAddr s.arpParams.assignAddr 17#8)
        { s with txbuf := s.txbuf.writeBytes 0 (udidEncode s.udid x) } := by
  have hrun : exec (.arpassign x) s = withUdidPacket s x
      (startBlockWrite s.arpParams.defaultAddr s.arpParams.assignAddr 17#8) :=
    (whenInited_of_true hinit _).trans (if_neg (by rw [hfree]; decide))
  rw [hrun, withUdidPacket_of_written h, mblkwr_of_inited]
  exact hinit

/-- ARPNOTIFY is MNOTIFY from the state with two zero bytes in TXBUF (R310). -/
theorem arpnotify_eq_mnotify (hinit : s.inited = true) (hfree : s.inputs.periphBusy = false) (c : Byte) :
    exec (.arpnotify c) s = exec (.mnotify c) { s with txbuf := (s.txbuf.write 0 0#8).write 1 0#8 } := by
  have hrun : exec (.arpnotify c) s = startNotify c { s with txbuf := (s.txbuf.write 0 0#8).write 1 0#8 } :=
    (whenInited_of_true hinit _).trans (if_neg (by rw [hfree]; decide))
  rw [hrun, mnotify_of_inited]
  exact hinit

end

/-- The direction bit is bit 0 of the address byte, so the directed commands are an address byte (R306, R308). -/
theorem addrByte_or_dirBit (a : BusAddr) (d : Bool) : addrByte a false ||| dirBit d = addrByte a d := by
  have hzero : dirBit false = 0#8 := rfl
  rw [addrByte, addrByte, hzero, BitVec.or_zero]

/-! ## The obligations -/

/-- Settles O58: UDIDENC by the read-back of the packet, UDIDDEC by the read of the 17 bytes of RXBUF (R303, R304). -/
theorem udidCommands : Obligations.UdidCommands := fun s hinit =>
  ⟨fun x hwritten => ⟨_, udidenc_of_written hinit hwritten x, read_packet s.txbuf s.udid x⟩,
    fun _ hlen hread => udiddec_of_bytes hinit hlen hread⟩

/-- Settles O60: each is its start from the state with TXBUF filled, and a start leaves TXBUF. -/
theorem arpAssignAndNotify : Obligations.ArpAssignAndNotify := by
  intro s x hinit hfree
  refine ⟨fun hwritten => ?assign, ?notify⟩
  case assign =>
    obtain ⟨t, ht, hopens⟩ := start_answers (s := { s with txbuf := s.txbuf.writeBytes 0 (udidEncode s.udid x) }) hinit
      (rfl : blockSizeOk 17#8 = true) _
    exact ⟨_, t, (arpassign_eq_mblkwr hinit hfree hwritten x).trans ht, ht, (hopens hfree).1, read_packet _ _ x⟩
  case notify =>
    obtain ⟨t, ht, hopens⟩ := start_answers (s := { s with txbuf := (s.txbuf.write 0 0#8).write 1 0#8 }) hinit rfl _
    exact ⟨_, t, (arpnotify_eq_mnotify hinit hfree x).trans ht, ht, (hopens hfree).1, read_zeros s.txbuf⟩

/-- Settles O59: each helper and its start command are the same start, at the parameters the state carries. -/
theorem arpHelpersAreStarts : Obligations.ArpHelpersAreStarts := by
  refine ⟨rfl, fun d => ⟨addrByte_or_dirBit d true, addrByte_or_dirBit d false⟩, ?_⟩
  intro s p d i j c hinit hp hmem
  subst hp
  simp only [List.mem_cons, Prod.mk.injEq, List.not_mem_nil, or_false] at hmem
  have blockRead {i : Instr} {a : BusAddr} {c : Byte} (h : exec i s = exec (.mblkrd a c) s) :=
    same_start_answers (r := rowCommand a c 0#8 blockRxPlaceholder true false fun _ => .readFirst) hinit rfl h rfl
  have sendByte {i : Instr} {a : BusAddr} {c : Byte} (h : exec i s = exec (.msendb a c) s) :=
    same_start_answers (r := rowSendByte a c) hinit rfl h rfl
  rcases hmem with ⟨rfl, rfl, rfl⟩ | ⟨rfl, rfl, rfl⟩ | ⟨rfl, rfl, rfl⟩ | ⟨rfl, rfl, rfl⟩ | ⟨rfl, rfl, rfl⟩
  · exact blockRead rfl
  · exact blockRead rfl
  · exact sendByte rfl
  · exact sendByte rfl
  · exact sendByte rfl

end Sys2Proof.Machine
end

section
/-! No command and no transaction goes on for ever: with its data written every command answers a next state (O26), and
the MINTPs from any initialised state run out (O50); and the transaction that ends in an error although nothing went wrong
on the bus (O51). -/

namespace Sys2Proof.Machine

/-! ## A command completes where no data is missing (R69, R262, R304) -/

/-- An outcome none of whose stops can be is a next state. -/
theorem next_of_halts {P : Fault → Prop} {o : Out} (h : Halts P o) (hnever : ∀ f, ¬P f) : ∃ t, o = .next t := by
  obtain ⟨hnotRefused, hfault⟩ := h
  cases o with
  | next t => exact ⟨t, rfl⟩
  | fault f => exact absurd (hfault f rfl) (hnever f)
  | refused r => exact absurd rfl (hnotRefused r)

theorem not_txGap {s : State} (hwritten : ∀ a, a < s.txSize.toNat → s.txbuf.read a ≠ none) (f : Fault) :
    ¬TxGap s f := by
  rintro ⟨-, hnone, hdue⟩
  exact hwritten _ hdue hnone

theorem not_rawGap {s : State} (hroom : s.flags.raw = true → s.rxIndex < s.rxSize) (f : Fault) : ¬RawGap s f := by
  rintro ⟨-, hfull, hraw⟩
  exact BitVec.not_le.mpr (hroom hraw) hfull

/-- Settles O26: the premises exclude the gaps of `CommandGap`, one by one. -/
theorem everyCommandCompletes : Obligations.EveryCommandCompletes := by
  intro i s htx hrx hudid hroom
  refine next_of_halts (exec_halts i s) fun f hgap => ?_
  cases hgap with
  | payload _ h => exact not_txGap (fun a ha => htx a (.inl ha)) f h
  | firstByte _ h => exact htx 0 (.inr rfl) h
  | packetByte hk h => exact hrx _ hk h
  | udid _ h => exact Bool.false_ne_true (h.symm.trans hudid)
  | rawRoom h => exact not_rawGap hroom f h

/-! ## How many MINTPs a transaction has left (R216, R375) -/

/-- A bound on the MINTPs without an error input until one clears TIP, with `tx` payload bytes to send and `rx` to
receive. From the sending states a process call may turn round, and from `ReadFirst` a block read may adopt 32 bytes, so
those to receive count as 32 at least. `ReadNext` has two MINTPs beside its bytes: the overrun and `ReadErrorStop`. -/
def Cursor.mintpsLeft (tx rx : Nat) : Cursor → Nat
  | .writeBlockSize => tx + max rx 32 + 5
  | .writeNext | .writeFinal => tx + max rx 32 + 4
  | .readOne | .readFirst => max rx 32 + 4
  | .readBlockSize => 35
  | .readNext => rx + 2
  | .readFinal => 2
  | .readWait | .readErrorStop | .idle => 1
  | .slavePostCommand | .writeDone | .readPec | .readDone | .unused => 1

def State.mintpsLeft (s : State) : Nat := s.masterCursor.mintpsLeft (txLeft s) (rxLeft s)

theorem Cursor.mintpsLeft_pos (c : Cursor) (tx rx : Nat) : 0 < c.mintpsLeft tx rx := by
  cases c <;> exact Nat.succ_pos _

theorem Cursor.mintpsLeft_le (c : Cursor) (tx rx : Nat) : c.mintpsLeft tx rx ≤ tx + max rx 32 + 5 := by
  cases c <;> simp only [Cursor.mintpsLeft] <;> omega

/-- The bound of R375 is the bound of the state it starts from. -/
theorem State.mintpsLeft_le (s : State) : s.mintpsLeft ≤ s.txSize.toNat + max s.rxSize.toNat 32 + 5 := by
  have htx : txLeft s ≤ s.txSize.toNat := Nat.sub_le _ _
  have hrx : rxLeft s ≤ s.rxSize.toNat := Nat.sub_le _ _
  have hle := s.masterCursor.mintpsLeft_le (txLeft s) (rxLeft s)
  rw [State.mintpsLeft]
  omega

/-- `WriteFinal` and `WriteNext` have the same bound, whatever chooses between them (R219). -/
theorem sending_mintpsLeft (p : Prop) [Decidable p] (tx rx : Nat) :
    (if p then Cursor.writeFinal else .writeNext).mintpsLeft tx rx = tx + max rx 32 + 4 := by
  split <;> rfl

/-- `ReadNext` and `ReadFinal`, whatever chooses between them (R225). -/
theorem receiving_mintpsLeft_le (p : Prop) [Decidable p] (tx rx : Nat) :
    (if p then Cursor.readFinal else .readNext).mintpsLeft tx rx ≤ rx + 2 := by
  split
  · exact Nat.le_add_left 2 rx
  · exact le_rfl

/-- The three states `select_read` chooses among (R228). -/
theorem selected_mintpsLeft_le (r tx rx : Nat) :
    (if r = 1 then Cursor.readWait else if r = 2 then .readFinal else .readNext).mintpsLeft tx rx ≤ rx + 2 := by
  split
  · exact Nat.le_add_left 1 (rx + 1)
  · exact receiving_mintpsLeft_le _ tx rx

/-- One MINTP brings the end of the transaction nearer: TIP is clear, or fewer MINTPs are left. -/
def Progress (s t : State) : Prop := t.flags.tip = false ∨ t.mintpsLeft < s.mintpsLeft

/-! ## Every handler makes progress -/

section
variable {s : State}

theorem progress_of_cursor {t : State} {c d : Cursor} (hs : s.masterCursor = c) (ht : t.masterCursor = d)
    (h : d.mintpsLeft (txLeft t) (rxLeft t) < c.mintpsLeft (txLeft s) (rxLeft s)) : Progress s t := by
  rw [Progress, State.mintpsLeft, State.mintpsLeft, hs, ht]
  exact .inr h

theorem masterEnd_progress (u : State) (st : Status) : Ends (Progress s) (masterEnd u st) := ends_next (.inl rfl)

theorem txLeft_pos (hlt : s.txIndex < s.txSize) : 0 < txLeft s := Nat.sub_pos_of_lt hlt

/-- Once a byte is stored, fewer are left to receive (R22). -/
theorem rxLeft_after_store (hlt : s.rxIndex < s.rxSize) (b : Byte) : rxLeft (s.storeRx b) < rxLeft s := by
  rw [rxLeft, rxLeft, State.storeRx_rxSize, State.storeRx_rxIndex, toNat_succ_of_lt hlt]
  exact Nat.sub_lt_sub_left hlt (Nat.lt_succ_self _)

/-- The size byte is not counted among the payload (R219). -/
theorem masterWriteBlockSize_progress (hcur : s.masterCursor = .writeBlockSize) :
    Ends (Progress s) (masterWriteBlockSize s) := by
  unfold masterWriteBlockSize
  refine ends_finish ?_
  simp only [State.emit, State.fold, State.setMaster, State.setResult]
  exact progress_of_cursor hcur rfl ((sending_mintpsLeft _ _ _).trans_lt (Nat.lt_succ_self _))

/-- A payload byte goes out, whichever state comes next (R220). -/
theorem masterWriteNext_progress (hcur : s.masterCursor = .writeNext) : Ends (Progress s) (masterWriteNext s) := by
  refine ends_ite (fun _ => masterEnd_progress _ _) fun hroom => ends_withNextTx fun b _ => ends_finish ?_
  have hlt := lt_of_not_le hroom
  have hpos := txLeft_pos hlt
  have hput := txLeft_after_put hlt
  have hleft : txLeft { s with txIndex := s.txIndex + 1#8 } + max (rxLeft s) 32 + 4 <
      txLeft s + max (rxLeft s) 32 + 4 := by omega
  split
  · exact progress_of_cursor hcur rfl hleft
  · exact progress_of_cursor hcur hcur hleft

/-- The last payload byte of a process call is still to send before the bus is turned round (R221, R222). -/
theorem masterWriteEnd_progress {u : State} (hcur : s.masterCursor = .writeFinal) (hrx : rxLeft u = rxLeft s)
    (hput : u.flags.pc = true → 0 < txLeft s) : Ends (Progress s) (masterWriteEnd u) := by
  refine ends_ite (fun hpc => ?call) fun _ => ?release
  case call =>
    have hpos := hput hpc
    have hleft : max (rxLeft u) 32 + 4 < txLeft s + max (rxLeft s) 32 + 4 := by
      rw [hrx]
      omega
    exact ends_finish (progress_of_cursor hcur rfl hleft)
  case release =>
    have hleft : 1 < txLeft s + max (rxLeft s) 32 + 4 := by omega
    exact ends_finish (progress_of_cursor hcur rfl hleft)

theorem masterWriteFinal_progress (hcur : s.masterCursor = .writeFinal) : Ends (Progress s) (masterWriteFinal s) := by
  refine ends_ite (fun hpec => ?pecByte) fun _ => ends_ite (fun _ => masterEnd_progress _ _) fun hroom =>
    ends_withNextTx fun b _ => ?payload
  case pecByte =>
    refine masterWriteEnd_progress hcur rfl fun hpc => ?_
    rw [show s.flags.pc = true from hpc, Bool.not_true, Bool.and_false] at hpec
    exact absurd hpec Bool.false_ne_true
  case payload => exact masterWriteEnd_progress hcur rfl fun _ => txLeft_pos (lt_of_not_le hroom)

/-- After the turn-around a size byte is due, or the bytes declared (R223). -/
theorem masterReadFirst_progress (hcur : s.masterCursor = .readOne ∨ s.masterCursor = .readFirst) :
    Ends (Progress s) (masterReadFirst s) := by
  have hbefore : s.mintpsLeft = max (rxLeft s) 32 + 4 := by
    rw [State.mintpsLeft]
    rcases hcur with hcur | hcur <;> rw [hcur] <;> rfl
  rw [masterReadFirst_eq]
  refine ends_next (.inr ?_)
  rw [hbefore]
  have hselected := selected_mintpsLeft_le (rxRem s) (txLeft s) (rxLeft s)
  change (if s.flags.blk = true then Cursor.readBlockSize
    else if rxRem s = 1 then .readWait else if rxRem s = 2 then .readFinal else .readNext).mintpsLeft
      (txLeft s) (rxLeft s) < max (rxLeft s) 32 + 4
  split
  · show 35 < max (rxLeft s) 32 + 4
    omega
  · omega

/-- An adopted size is 32 at most, and what a stale `rx_index` takes off it only shortens the read (R224). -/
theorem masterReadBlockSize_progress (hcur : s.masterCursor = .readBlockSize) :
    Ends (Progress s) (masterReadBlockSize s) := by
  cases hsize : blockSizeOk s.inputs.data with
  | false =>
    rw [masterReadBlockSize_of_bad hsize]
    exact ends_next (progress_of_cursor hcur rfl (show 1 < 35 by decide))
  | true =>
    obtain ⟨-, hle⟩ := (blockSizeOk_iff _).mp hsize
    rw [masterReadBlockSize_of_ok hsize]
    have hleft : s.inputs.data.toNat - s.rxIndex.toNat + 2 < 35 := by omega
    exact ends_next (progress_of_cursor hcur rfl ((selected_mintpsLeft_le _ _ _).trans_lt hleft))

/-- A byte is stored, or the overrun leaves one MINTP (R225, R227). -/
theorem masterReadNext_progress (hcur : s.masterCursor = .readNext) : Ends (Progress s) (masterReadNext s) := by
  by_cases hfull : s.rxSize ≤ s.rxIndex
  · rw [masterReadNext_of_full hfull]
    exact ends_next (progress_of_cursor hcur rfl (Nat.le_add_left 2 (rxLeft s)))
  · have hlt := lt_of_not_le hfull
    have hleft := Nat.add_lt_add_right (rxLeft_after_store hlt s.inputs.data) 2
    rw [masterReadNext_of_room hcur hlt]
    exact ends_next (progress_of_cursor hcur rfl ((receiving_mintpsLeft_le _ _ _).trans_lt hleft))

theorem masterReadFinal_progress (hcur : s.masterCursor = .readFinal) : Ends (Progress s) (masterReadFinal s) := by
  have hmore : (1 : Nat) < 2 := by decide
  by_cases hfull : s.rxSize ≤ s.rxIndex
  · rw [masterReadFinal_of_full hfull]
    exact ends_next (progress_of_cursor hcur rfl hmore)
  · rw [masterReadFinal_of_room (lt_of_not_le hfull)]
    exact ends_next (progress_of_cursor hcur rfl hmore)

/-- Each path of `ReadWait` ends the transaction (R229). -/
theorem masterReadWait_progress : Ends (Progress s) (masterReadWait s) :=
  ends_ite (fun _ => masterEnd_progress _ _) fun _ =>
    ends_ite (fun _ => masterEnd_progress _ _) fun _ => masterEnd_progress _ _

theorem handler_progress {c : Cursor} (hcur : s.masterCursor = c) : Ends (Progress s) (c.handler s) := by
  cases c
  case idle => exact ends_next (.inl rfl)
  case writeBlockSize => exact masterWriteBlockSize_progress hcur
  case writeNext => exact masterWriteNext_progress hcur
  case writeFinal => exact masterWriteFinal_progress hcur
  case readOne => exact masterReadFirst_progress (.inl hcur)
  case readFirst => exact masterReadFirst_progress (.inr hcur)
  case readBlockSize => exact masterReadBlockSize_progress hcur
  case readNext => exact masterReadNext_progress hcur
  case readFinal => exact masterReadFinal_progress hcur
  case readWait => exact masterReadWait_progress
  case readErrorStop | slavePostCommand | writeDone | readPec | readDone | unused => exact masterEnd_progress _ _

/-! ## Every MINTP makes progress (R210) -/

/-- A NACK comes with `bus_busy` 0 where the inputs have no error or the bus is free (R214). -/
theorem free_of_nack {x : Inputs} (hx : x.noMasterError = true ∨ x.busBusy = false)
    (hnack : (x.errAddrNack || x.errDataNack) = true) : x.busBusy = false := by
  refine hx.resolve_left fun hnone => ?_
  simp only [Inputs.noMasterError, Bool.and_eq_true, Bool.not_eq_true'] at hnone
  obtain ⟨⟨-, haddr⟩, hdata⟩ := hnone
  rw [haddr, hdata] at hnack
  exact Bool.false_ne_true hnack

theorem masterInterrupt_progress (herr : s.inputs.noMasterError = true ∨ s.inputs.busBusy = false) :
    Ends (Progress s) (masterInterrupt s) := by
  refine ends_ite (fun _ => masterEnd_progress _ _) fun _ => ends_ite (fun _ => masterEnd_progress _ _) fun _ =>
    ends_ite (fun hnack => ?nack) fun _ => ?handler
  case nack =>
    rw [masterNack_eq]
    exact ends_next (.inl (if_neg (Bool.eq_false_iff.mp (free_of_nack herr hnack))))
  case handler =>
    rw [masterDispatch_eq_handler]
    exact handler_progress (s := s.emit .mIclrData) rfl

/-- On an initialised block whose payload is written MINTP completes, keeps both, and makes progress. -/
theorem mintp_progress {x : Inputs} (hinit : s.inited = true)
    (hwritten : ∀ a, a < s.txSize.toNat → s.txbuf.read a ≠ none)
    (herr : x.noMasterError = true ∨ x.busBusy = false) : ∃ t, exec .mintp { s with inputs := x } = .next t ∧
      t.inited = true ∧ (∀ a, a < t.txSize.toNat → t.txbuf.read a ≠ none) ∧ Progress s t := by
  have hrun : exec .mintp { s with inputs := x } = masterInterrupt { s with inputs := x } := mintp_of_inited hinit
  obtain ⟨t, ht⟩ := next_of_halts (masterInterrupt_halts { s with inputs := x }) (not_txGap hwritten)
  have heffect := masterInterrupt_effect _ t ht
  have hprogress := masterInterrupt_progress (s := { s with inputs := x }) herr t ht
  refine ⟨t, hrun.trans ht, heffect.inited_eq.trans hinit, ?_, hprogress⟩
  rw [heffect.txSize_eq, heffect.txbuf_eq]
  exact hwritten

end

/-! ## The run of MINTPs (R375) -/

/-- TIP is cleared within the MINTPs that are left. -/
theorem tip_cleared_within {ins : List Inputs} {s : State} (hinit : s.inited = true)
    (hwritten : ∀ a, a < s.txSize.toNat → s.txbuf.read a ≠ none) (hleft : s.mintpsLeft ≤ ins.length)
    (herr : ∀ x ∈ ins, x.noMasterError = true ∨ x.busBusy = false) :
    ∃ (k : Nat) (t : State), k ≤ ins.length ∧ afterMintps (ins.take k) s = .next t ∧ t.flags.tip = false := by
  induction ins generalizing s with
  | nil => exact absurd hleft (Nat.not_le.mpr (s.masterCursor.mintpsLeft_pos _ _))
  | cons x rest ih =>
    obtain ⟨t, ht, hinit', hwritten', hprogress⟩ := mintp_progress hinit hwritten (herr x List.mem_cons_self)
    rcases hprogress with htip | hless
    · exact ⟨1, t, Nat.succ_le_succ (Nat.zero_le _), afterMintps_cons ht [], htip⟩
    · have hrest : t.mintpsLeft ≤ rest.length := Nat.le_of_lt_succ (hless.trans_le hleft)
      obtain ⟨k, u, hk, hrun, htip⟩ := ih hinit' hwritten' hrest fun y hy => herr y (List.mem_cons_of_mem x hy)
      exact ⟨k + 1, u, Nat.succ_le_succ hk, (afterMintps_cons ht (rest.take k)).trans hrun, htip⟩

/-- Settles O50: the bound of R375 is at least the MINTPs that are left, and a timeout or an arbitration loss ends the
transaction whatever the cursor. -/
theorem everyTransactionEnds : Obligations.EveryTransactionEnds := by
  intro s hinit
  refine ⟨fun ins hwritten hlength herr => ?run, fun x hx => ?abort⟩
  case run => exact tip_cleared_within hinit hwritten (hlength ▸ s.mintpsLeft_le) herr
  case abort =>
    obtain ⟨htimeout, harbitration, -⟩ := masterErrorPaths { s with inputs := x } hinit
    cases h : x.intTimeout with
    | true => exact ⟨_, afterMintps_cons (htimeout h) [], rfl⟩
    | false => exact ⟨_, afterMintps_cons (harbitration h (hx.resolve_left (by simp [h]))) [], rfl⟩

/-! ## The Block Process Call of one byte with PEC (R364) -/

/-- A process call of the one written payload byte `b`, with PEC and no error input. -/
structure State.OneByteCall (s : State) (b : Byte) : Prop where
  inited : s.inited = true
  noError : s.inputs.noMasterError = true
  pec : s.flags.pec = true
  call : s.flags.pc = true
  size : s.txSize = 1#8
  written : s.txbuf.read 0 = some b

section
variable {s : State} {b : Byte}

/-- MBPCALL of size 1 opens one, its size byte due (R188). -/
theorem mbpcall_oneByteCall (a : BusAddr) (c : Byte) (hinit : s.inited = true) (hfree : s.inputs.periphBusy = false)
    (herr : s.inputs.noMasterError = true) (hpec : s.flags.pec = true) (hread : s.txbuf.read 0 = some b) :
    ∃ t, exec (.mbpcall a c 1#8) s = .next t ∧ t.OneByteCall b ∧ t.masterCursor = .writeBlockSize ∧ t.txIndex = 0#8 ∧
      t.trace = s.trace ++ [.mAddr a false, .mPut c, .mCtl .sendStart] :=
  ⟨_, (processCallsStart s a c 1#8 hinit hfree).2 (by decide) (by decide), ⟨hinit, herr, hpec, rfl, rfl, hread⟩,
    rfl, rfl, rfl⟩

/-- With PEC the size byte is followed by `WriteNext`: R219 does not look at the process call. -/
theorem State.OneByteCall.mintp_size (h : s.OneByteCall b) (hcur : s.masterCursor = .writeBlockSize) :
    ∃ t, exec .mintp s = .next t ∧ t.OneByteCall b ∧ t.masterCursor = .writeNext ∧ t.txIndex = s.txIndex ∧
      t.trace = s.trace ++ [.mIclrData, .mPut 1#8, .mCtl .sendCont] := by
  have hpayload : ¬(s.txSize = 1#8 ∧ s.flags.pec = false) := by simp [h.pec]
  exact ⟨_, mintp_at_writeBlockSize h.inited h.noError hcur,
    ⟨h.inited, h.noError, h.pec, h.call, h.size, h.written⟩, if_neg hpayload, rfl, by rw [h.size]⟩

/-- The only payload byte leaves no wire byte to send, where one would lead to `WriteFinal` (R216, R220). -/
theorem State.OneByteCall.mintp_payload (h : s.OneByteCall b) (hcur : s.masterCursor = .writeNext)
    (hindex : s.txIndex = 0#8) : ∃ t, exec .mintp s = .next t ∧ t.OneByteCall b ∧ t.masterCursor = .writeNext ∧
      t.txIndex = 1#8 ∧ t.trace = s.trace ++ [.mIclrData, .mPut b, .mCtl .sendCont] := by
  have hlt : s.txIndex < s.txSize := by rw [hindex, h.size]; decide
  have hread : s.txbuf.read s.txIndex.toNat = some b := by rw [hindex]; exact h.written
  have hspent : txRem { s with txIndex := s.txIndex + 1#8 } ≠ 1 := by
    rw [txRem_after_put hlt]
    simp [hindex, h.size, h.call]
  exact ⟨_, mintp_at_writeNext h.inited h.noError hcur hlt hread,
    ⟨h.inited, h.noError, h.pec, h.call, h.size, h.written⟩, if_neg hspent, by rw [hindex]; rfl, rfl⟩

/-- `WriteNext` finds the payload spent (R227). -/
theorem State.OneByteCall.mintp_spent (h : s.OneByteCall b) (hcur : s.masterCursor = .writeNext)
    (hindex : s.txIndex = 1#8) : ∃ t, exec .mintp s = .next t ∧ t.masterCursor = .idle ∧ t.flags.tip = false ∧
      t.result = ⟨false, .dataSizeError, 0#8⟩ ∧ t.trace = s.trace ++ [.mIclrData, .mCtl .errorStop] := by
  have hfull : s.txSize ≤ s.txIndex := by rw [hindex, h.size]; decide
  exact ⟨_, (masterOverruns s h.inited h.noError).1 hfull (.inl hcur), rfl, rfl, rfl, rfl⟩

end

/-- Settles O51, MINTP by MINTP. -/
theorem oneByteBlockProcessCallWithPecFails : Obligations.OneByteBlockProcessCallWithPecFails := by
  intro s a c b hinit hfree herr hpec hread
  obtain ⟨t0, hstart, hcall0, hcur0, hindex0, htrace0⟩ := mbpcall_oneByteCall a c hinit hfree herr hpec hread
  obtain ⟨t1, hsize, hcall1, hcur1, hindex1, htrace1⟩ := hcall0.mintp_size hcur0
  obtain ⟨t2, hpayload, hcall2, hcur2, hindex2, htrace2⟩ := hcall1.mintp_payload hcur1 (hindex1.trans hindex0)
  obtain ⟨t3, hspent, hcur3, htip, hresult, htrace3⟩ := hcall2.mintp_spent hcur2 hindex2
  refine ⟨t0, t1, t2, t3, hstart, hsize, hpayload, hspent, hcur1, hcur2, hcur3, htip, hresult, ?_⟩
  rw [htrace3, htrace2, htrace1, htrace0]
  simp only [List.append_assoc, List.cons_append, List.nil_append]

end Sys2Proof.Machine
end
